-- ==== Sys2Proof/Word.lean ====
section
/-! DEFINITION. The widths of the spec's values: what `spec/10_state.md` R18 and `spec/30_encoding.md`
R51 to R59 treat as bits is a bit vector here. The registers whose width is the open parameter
`CNT_WIDTH`, `WDT_PERIOD` or `T_SETTLE` are natural numbers, written with an explicit reduction as
`spec/00_scope.md` R9 writes them (assumption log 2). -/

namespace Sys2Proof

/-- The 32-bit command word (`30_encoding.md` R53). -/
abbrev Command := BitVec 32

/-- The 8-bit step selector `SEL[7:0]` (`30_encoding.md` R59). -/
abbrev SelectorWord := BitVec 8

/-- A 3-bit code: the sequencer state (R58) or the action code (R55). -/
abbrev Code3 := BitVec 3

/-- A channel's 2-bit direction code (`30_encoding.md` R56). -/
abbrev Direction := BitVec 2

/-- An 8-bit speed level or PWM compare value (`10_state.md` R25, R34). -/
abbrev Level := BitVec 8

/-- The 6-bit frame index (`10_state.md` R20). -/
abbrev FrameIndex := BitVec 6

/-- The 34 slots of the frame buffer, each an unsigned sample (`20_memory.md` R40, `30_encoding.md` R51). -/
abbrev FrameBuffer := Vector Nat 34

/-- The direction codes of R56. -/
def Direction.off : Direction := 0b00#2
/-- The channel drives its motor forward (R56). -/
def Direction.forward : Direction := 0b10#2
/-- The channel drives its motor in reverse (R56). -/
def Direction.reverse : Direction := 0b01#2
/-- The reserved direction code, which no rule writes (R56, R60). -/
def Direction.reserved : Direction := 0b11#2

/-- Sequencer state codes of `30_encoding.md` R58: polling for a complete frame. -/
def Seq.idle : Code3 := 0b000#3
/-- The dispatcher's state (R58). -/
def Seq.dispatch : Code3 := 0b001#3
/-- The action multiplexer's state (R58, `43_dispatch.md` R80). -/
def Seq.act : Code3 := 0b010#3
/-- Waiting out the settling delay (R58, `44_actuator.md` R90). -/
def Seq.settle : Code3 := 0b011#3
/-- The state after reset (R58, `70_reset_and_hazards.md` R110). -/
def Seq.boot : Code3 := 0b111#3

/-- The five legal codes of `SEQ` (R58); `100`, `101` and `110` are unused. -/
def Seq.legal (q : Code3) : Bool :=
  q == Seq.idle || q == Seq.dispatch || q == Seq.act || q == Seq.settle || q == Seq.boot

end Sys2Proof
end

