-- ==== Sys2Proof/Syntax.lean ====
section
/-! DEFINITION. The names of the spec: the four agents (`00_scope.md` R11), the eight actions
(`30_encoding.md` R55), the sixteen operations of `opcode_table.json` (one constructor of `Instr` per
row; no operation has an operand, R62 to R93), the three fields of a step selector (R59), and the
entries of a schedule: the steps the environment and the sequencer are given to take (R61, R102). -/

namespace Sys2Proof

/-- The four agents that take steps (R11). -/
inductive Agent where
  /-- The timer tick of the edge timer, the watchdog and the settling counter. -/
  | clk
  /-- A rising edge on the signal input pin. -/
  | ir
  /-- A rising edge on the emergency-stop input pin. -/
  | estop
  /-- The hardware sequencer. -/
  | seq
  deriving DecidableEq, Repr, Inhabited

/-- The eight actions of R55. All eight codes are used, so the type says what the 3-bit register holds;
`Action.code` gives the bits. -/
inductive Action where
  | stop | fwd | bwd | left | right | speedup | slowdown | accToggle
  deriving DecidableEq, Repr

/-- The motion actions of R55. -/
def Action.isMotion : Action → Bool
  | .fwd | .bwd | .left | .right => true
  | .stop | .speedup | .slowdown | .accToggle => false

/-- The sixteen operations, one per row of the opcode table, in its order. -/
inductive Instr where
  /-- `TICK` (R65). -/
  | tick
  /-- `WDT_OVF` (R66): the tick that overflows the watchdog. -/
  | wdtOvf
  /-- `IR_EDGE` (R62 to R64). -/
  | irEdge
  /-- `ESTOP_EDGE` (R93). -/
  | estopEdge
  /-- `BOOT` (R111). -/
  | boot
  /-- `DECODE` (R73). -/
  | decode
  /-- `DISPATCH` (R78). -/
  | dispatch
  /-- `ACT.STOP` (R86). -/
  | actStop
  /-- `ACT.FWD` (R82). -/
  | actFwd
  /-- `ACT.BWD` (R83). -/
  | actBwd
  /-- `ACT.LEFT` (R84). -/
  | actLeft
  /-- `ACT.RIGHT` (R85). -/
  | actRight
  /-- `ACT.SPEEDUP` (R87). -/
  | actSpeedup
  /-- `ACT.SLOWDOWN` (R88). -/
  | actSlowdown
  /-- `ACT.ACC_TOGGLE` (R89). -/
  | actAccToggle
  /-- `SETTLE` (R90). -/
  | settle
  deriving DecidableEq, Repr

/-- A step selector taken apart: `SEL[7:0] = STEP, SQ, AC` (R59). -/
structure Selector where
  /-- `STEP[1:0]`: the agent. -/
  step : BitVec 2
  /-- `SQ[2:0]`: `SEQ` before the step, for a step of the sequencer. -/
  sq : Code3
  /-- `AC[2:0]`: `ACTION` before the step, where `SQ` is `010`. -/
  ac : Code3
  deriving DecidableEq, Repr

/-- An instant: how many steps of each agent the hardware sees at the same time. R102 bounds only the
ticks, to one; several edges may fall in one instant (`41_capture.md` R62). -/
structure Instant where
  ir : Nat
  clk : Bool
  seq : Nat
  estop : Nat
  deriving DecidableEq, Repr

/-- One entry of a schedule. -/
inductive Entry where
  /-- A trace entry as R61 encodes it: one selector byte. -/
  | word (w : SelectorWord)
  /-- A line `tick`, `edge`, `estop` or `seq` of R61: one step of that agent, whatever it is in the state. -/
  | agent (a : Agent)
  /-- Steps seen at the same time, ordered by `SIMUL_ORDER` (R102). -/
  | instant (j : Instant)
  /-- The line `run` of R61: `seq` until the sequencer holds. -/
  | run
  deriving DecidableEq, Repr

end Sys2Proof
end

