-- ==== Sys2Proof/Config.lean ====
section
/-! DEFINITION. What an implementation fixes (`spec/00_scope.md` R6): the constants the source states,
the record of the parameters the spec leaves OPEN or decides by default, the example configuration EX
of `92_eei_decisions.md` D41, and the free values (the draw of R78, the environment's freedom of R11 and
the order of simultaneous steps of R102). -/

namespace Sys2Proof

/-- `N_SLOTS`: samples per frame (R6, source). -/
def nSlots : Nat := 34
/-- `N_SKIP`: leading samples the decoder discards (R6, source). -/
def nSkip : Nat := 2
/-- `N_DATA`: data samples decoded (R6, source). -/
def nData : Nat := 32
/-- `SPEED_MIN` (R6, source). -/
def speedMin : Nat := 0
/-- `SPEED_MAX` (R6, source). -/
def speedMax : Nat := 100
/-- `SPEED_STEP` (R6, source). -/
def speedStep : Nat := 10
/-- `PWM_WIDTH` (R6, source). -/
def pwmWidth : Nat := 8

/-- `FULL_POLICY` (R6, `41_capture.md` R63): what an edge does when the buffer is full. -/
inductive FullPolicy where
  | drop | overwriteLast
  deriving DecidableEq, Repr

/-- `ESTOP_RELEASE` (R6, `45_estop.md` R95): what clears the emergency-stop latch. -/
inductive EstopRelease where
  | nextDecode | never
  deriving DecidableEq, Repr

/-- `SIMUL_ORDER` (R6, `60_exceptions.md` R102): how simultaneous steps are ordered. -/
inductive SimulOrder where
  | any | fixed
  deriving DecidableEq, Repr

/-- `DIR_PATTERN` (R6, `30_encoding.md` R57): (`DIR_A`, `DIR_B`) of each motion action. -/
structure DirPattern where
  fwd : Direction × Direction
  bwd : Direction × Direction
  left : Direction × Direction
  right : Direction × Direction
  deriving DecidableEq, Repr

/-- The default table of R57. -/
def DirPattern.default : DirPattern where
  fwd := (Direction.forward, Direction.forward)
  bwd := (Direction.reverse, Direction.reverse)
  left := (Direction.reverse, Direction.forward)
  right := (Direction.forward, Direction.reverse)

/-- The parameters of R6 that the source does not fix. Fields with a default are the ones the spec
decides; the others are OPEN. -/
structure Config where
  /-- `CNT_WIDTH`: width W of the edge counter and of each sample. -/
  cntWidth : Nat
  /-- `T_ONE`: the logical-one threshold, in ticks. -/
  tOne : Nat
  /-- `WDT_PERIOD`: watchdog overflow period, in ticks of idle. -/
  wdtPeriod : Nat
  /-- `T_SETTLE`: the settling delay, in ticks. -/
  tSettle : Nat
  /-- `SPEED_RESET`: the speed level at reset. -/
  speedReset : Nat
  codeFwd : Command
  codeBwd : Command
  codeLeft : Command
  codeRight : Command
  codeSpeedup : Command
  codeSlowdown : Command
  codeAcc : Command
  dirPattern : DirPattern := DirPattern.default
  fullPolicy : FullPolicy := .drop
  estopRelease : EstopRelease := .nextDecode
  simulOrder : SimulOrder := .any
  deriving DecidableEq, Repr

/-- The seven known command codes, in the order of the dispatch table (`30_encoding.md` R54). -/
def Config.codes (c : Config) : List Command :=
  [c.codeFwd, c.codeBwd, c.codeLeft, c.codeRight, c.codeSpeedup, c.codeSlowdown, c.codeAcc]

/-- EX, the example configuration of `92_eei_decisions.md` D41. DESIGN CHOICE (assumption log 1): the
configuration of `State.reset`; it is no value of the hardware. -/
def Config.ex : Config where
  cntWidth := 8
  tOne := 50
  wdtPeriod := 256
  tSettle := 20
  speedReset := 0
  codeFwd := 0x00000011#32
  codeBwd := 0x00000022#32
  codeLeft := 0x00000033#32
  codeRight := 0x00000044#32
  codeSpeedup := 0x00000055#32
  codeSlowdown := 0x00000066#32
  codeAcc := 0x00000077#32
  simulOrder := .fixed

/-- The value the n-th draw binds for `IND_PARITY` (`43_dispatch.md` R78): a free value (assumption log 4). -/
opaque Config.freeParity : Nat → Bool

/-- The agent that steps at the n-th draw where the schedule says nothing (R11): a free value
(assumption log 5). -/
opaque Config.freeAgent : Nat → Agent

/-- Which member of an instant steps first at the n-th draw under `SIMUL_ORDER = ANY` (R102): a free
value, reduced modulo the number of members (assumption log 6). -/
opaque Config.freePick : Nat → Nat

end Sys2Proof
end

