-- ==== Sys2Proof/WellFormed.lean ====
section
/-! DEFINITION. The checks of the spec: the configurations a machine exists for (`00_scope.md` R7 (a) to
(j)) and the selectors that name a step (`30_encoding.md` R59, R60). Every term of `Instr` is well
formed: no operation has an operand. -/

namespace Sys2Proof

/-- R7 (a): `CNT_WIDTH >= 1`. -/
def Config.widthOk (c : Config) : Bool := decide (1 ≤ c.cntWidth)
/-- R7 (b): `T_ONE < 2^CNT_WIDTH`. -/
def Config.thresholdOk (c : Config) : Bool := decide (c.tOne < 2 ^ c.cntWidth)
/-- R7 (c): `WDT_PERIOD >= 1`. -/
def Config.periodOk (c : Config) : Bool := decide (1 ≤ c.wdtPeriod)
/-- R7 (d): `SPEED_MIN <= SPEED_RESET <= SPEED_MAX <= 2^PWM_WIDTH - 1`. -/
def Config.speedOk (c : Config) : Bool :=
  decide (speedMin ≤ c.speedReset ∧ c.speedReset ≤ speedMax ∧ speedMax ≤ 2 ^ pwmWidth - 1)
/-- R7 (e): `SPEED_STEP >= 1`; the source fixes the step, so no configuration breaks it. -/
def Config.stepOk (_c : Config) : Bool := decide (1 ≤ speedStep)
/-- R7 (f): the seven codes are pairwise distinct; each is below 2^32 by its type. -/
def Config.codesOk (c : Config) : Bool := decide c.codes.Nodup

/-- A pair of direction codes with no reserved code (R7 (g), R56). -/
def Direction.pairOk (p : Direction × Direction) : Bool :=
  p.1 != Direction.reserved && p.2 != Direction.reserved

/-- R7 (g): no entry of `DIR_PATTERN` holds the code `11`. -/
def Config.patternOk (c : Config) : Bool :=
  Direction.pairOk c.dirPattern.fwd && Direction.pairOk c.dirPattern.bwd &&
    Direction.pairOk c.dirPattern.left && Direction.pairOk c.dirPattern.right

/-- R7: the configurations a model has a machine for. (h) to (j) hold by the types of the fields. -/
def Config.wf (c : Config) : Bool :=
  c.widthOk && c.thresholdOk && c.periodOk && c.speedOk && c.stepOk && c.codesOk && c.patternOk

/-- The selectors of `CLK`, `IR` and `ESTOP` have `SQ` and `AC` zero (R59, R60). -/
def Selector.canonical (x : Selector) : Bool :=
  x.step == 0b11#2 || (x.sq == 0#3 && x.ac == 0#3)

/-- A selector of the sequencer names one of the five states of R58 (R60). -/
def Selector.sequencerUsed (x : Selector) : Bool :=
  x.step != 0b11#2 || Seq.legal x.sq

/-- `AC` is `000` unless `SQ` is `010` (R59). -/
def Selector.actionPlaced (x : Selector) : Bool :=
  x.step != 0b11#2 || x.sq == Seq.act || x.ac == 0#3

/-- The selectors that name a step of some state (R59, R60). -/
def Selector.wf (x : Selector) : Bool :=
  x.canonical && x.sequencerUsed && x.actionPlaced

end Sys2Proof
end

