-- ==== Sys2Proof/Decode.lean ====
section
/-! DEFINITION. The step selector (`spec/30_encoding.md` R59): its fields, the operation a selector names
(total; a selector that names none is rejected by name, R60), and after it the encoder, written from the
`encoding` column of `opcode_table.json`. TICK and WDT_OVF have one selector, `00 000 000`, and are told
apart by state (R59); `Machine/Schedule.lean` does that, and a word alone decodes to TICK
(assumption log 7). -/

namespace Sys2Proof

/-- Why a selector names no step (R59, R60). -/
inductive SelectorError where
  /-- `STEP` is `00`, `01` or `10` and `SQ` or `AC` is not `000` (R60). -/
  | nonCanonical
  /-- `STEP` is `11` and `SQ` is `100`, `101` or `110` (R60). -/
  | unusedSequencer
  /-- `STEP` is `11`, `SQ` is a state other than S_ACT and `AC` is not `000` (R59). -/
  | strayAction
  deriving DecidableEq, Repr

/-- The bits of an action (R55). -/
def Action.code : Action → Code3
  | .stop => 0b000#3
  | .fwd => 0b001#3
  | .bwd => 0b010#3
  | .left => 0b011#3
  | .right => 0b100#3
  | .speedup => 0b101#3
  | .slowdown => 0b110#3
  | .accToggle => 0b111#3

/-- The action of a 3-bit code (R55). -/
def Action.ofCode (a : Code3) : Action :=
  if a = 0b000#3 then .stop
  else if a = 0b001#3 then .fwd
  else if a = 0b010#3 then .bwd
  else if a = 0b011#3 then .left
  else if a = 0b100#3 then .right
  else if a = 0b101#3 then .speedup
  else if a = 0b110#3 then .slowdown
  else .accToggle

/-- The action operation the multiplexer selects (`43_dispatch.md` R80). -/
def Action.instr : Action → Instr
  | .stop => .actStop
  | .fwd => .actFwd
  | .bwd => .actBwd
  | .left => .actLeft
  | .right => .actRight
  | .speedup => .actSpeedup
  | .slowdown => .actSlowdown
  | .accToggle => .actAccToggle

/-- The fields of a selector: bits 7:6, 5:3 and 2:0 (R59). -/
def Selector.ofWord (w : SelectorWord) : Selector where
  step := w.extractLsb' 6 2
  sq := w.extractLsb' 3 3
  ac := w.extractLsb' 0 3

/-- The byte of a selector: `STEP`, `SQ`, `AC` from the most significant bit down (R59). -/
def Selector.toWord (x : Selector) : SelectorWord :=
  (x.step ++ x.sq) ++ x.ac

/-- The operation a selector names: match `STEP`; for `11` match `SQ`; for S_ACT match `AC` (R59). A
selector that names no step is rejected with the reason (R60). -/
def decodeSelector (x : Selector) : Except SelectorError Instr :=
  if !x.canonical then .error .nonCanonical
  else if !x.sequencerUsed then .error .unusedSequencer
  else if !x.actionPlaced then .error .strayAction
  else if x.step = 0b00#2 then .ok .tick
  else if x.step = 0b01#2 then .ok .irEdge
  else if x.step = 0b10#2 then .ok .estopEdge
  else if x.sq = Seq.boot then .ok .boot
  else if x.sq = Seq.idle then .ok .decode
  else if x.sq = Seq.dispatch then .ok .dispatch
  else if x.sq = Seq.act then .ok (Action.ofCode x.ac).instr
  else .ok .settle

/-- The operation a selector byte names. -/
def decodeWord (w : SelectorWord) : Except SelectorError Instr :=
  decodeSelector (Selector.ofWord w)

/-- The selector byte of each row of `opcode_table.json`. -/
def encode : Instr → SelectorWord
  | .tick => 0b00000000#8
  | .wdtOvf => 0b00000000#8
  | .irEdge => 0b01000000#8
  | .estopEdge => 0b10000000#8
  | .boot => 0b11111000#8
  | .decode => 0b11000000#8
  | .dispatch => 0b11001000#8
  | .actStop => 0b11010000#8
  | .actFwd => 0b11010001#8
  | .actBwd => 0b11010010#8
  | .actLeft => 0b11010011#8
  | .actRight => 0b11010100#8
  | .actSpeedup => 0b11010101#8
  | .actSlowdown => 0b11010110#8
  | .actAccToggle => 0b11010111#8
  | .settle => 0b11011000#8

/-- The operation a word alone names: WDT_OVF shares TICK's selector (R59, R66). -/
def Instr.byWord : Instr → Instr
  | .wdtOvf => .tick
  | i => i

/-- The agent of an operation (the `agent` column of `opcode_table.json`, R59). -/
def Instr.agent : Instr → Agent
  | .tick | .wdtOvf => .clk
  | .irEdge => .ir
  | .estopEdge => .estop
  | .boot | .decode | .dispatch | .actStop | .actFwd | .actBwd | .actLeft | .actRight
  | .actSpeedup | .actSlowdown | .actAccToggle | .settle => .seq

/-- The `STEP` code of an agent (R59). -/
def Agent.stepCode : Agent → BitVec 2
  | .clk => 0b00#2
  | .ir => 0b01#2
  | .estop => 0b10#2
  | .seq => 0b11#2

/-- What the decoder reads from a table word: a selector is one byte, so any other length, or a number
that does not fit in a byte, names nothing. -/
def decodeTableWord (nbits w : Nat) : Option Instr :=
  if nbits = 8 ∧ w < 256 then (decodeWord (BitVec.ofNat 8 w)).toOption else none

end Sys2Proof
end

