-- ==== Sys2Proof/Machine/State.lean ====
section
/-! DEFINITION. The state of the IRFC core (`spec/10_state.md` R18), the events its steps emit
(`60_exceptions.md` R98), the reasons a step can stop, and the state after power-on reset
(`70_reset_and_hazards.md` R109, R110). -/

namespace Sys2Proof.Machine

/-- The observable events of R98. -/
inductive Event where
  /-- Class (a): an incomplete frame of n samples is discarded. -/
  | frameAbort (n : Nat)
  /-- Class (b): a decoded command that is not in the table. -/
  | unknownCmd (c : Command)
  /-- Class (c): an emergency stop, spurious or genuine. -/
  | estop
  /-- A sample not stored in its own slot (R63, R113). -/
  | edgeLost (s : Nat)
  /-- A frame decoded to a command (R73). -/
  | frameDecoded (c : Command)
  /-- An action dispatched: the display event (R36, R78). -/
  | dispatched (a : Action)
  deriving DecidableEq, Repr

/-- The complete state of R18, and four fields of the model's own (the last group). -/
structure State where
  /-- `EDGE_CNT`, W bits: the edge timer (R19). -/
  edgeCnt : Nat
  /-- `WDT_CNT`, ceil(log2(WDT_PERIOD)) bits: the watchdog's idle counter (R22). -/
  wdtCnt : Nat
  /-- `IDX`, 6 bits: the frame index (R20). -/
  idx : FrameIndex
  /-- `BUF[0..33]`, W bits each: the frame capture buffer (R21). -/
  buf : FrameBuffer
  /-- `CMD`, 32 bits: the command register (R23). -/
  cmd : Command
  /-- `ACTION`, 3 bits: the action register, its code `Action.code` (R24). -/
  action : Action
  /-- `SPEED`, 8 bits: the motor speed level (R25). -/
  speed : Level
  /-- `ACC`, 1 bit: the accessory flag (R26). -/
  acc : Bool
  /-- `IND_PARITY`, 1 bit: the indicator toggle parity (R27). -/
  indParity : Bool
  /-- `SEQ`, 3 bits: the sequencer state (R28). -/
  seq : Code3
  /-- `SETTLE_CNT`, ceil(log2(T_SETTLE + 1)) bits: the settling-delay counter (R29). -/
  settleCnt : Nat
  /-- `ESTOP_LATCH`, 1 bit: the emergency-stop latch (R30). -/
  estopLatch : Bool
  /-- `GIE`, 1 bit: the global event enable (R31). -/
  gie : Bool
  /-- `DIR_A`, 2 bits: channel A's direction output (R33). -/
  dirA : Direction
  /-- `DIR_B`, 2 bits: channel B's direction output (R33). -/
  dirB : Direction
  /-- `PWM_A`, 8 bits: channel A's compare value (R34). -/
  pwmA : Level
  /-- `PWM_B`, 8 bits: channel B's compare value (R34). -/
  pwmB : Level
  /-- The MODEL's field: the configuration of R6, a parameter that no step writes (assumption log 1). -/
  cfg : Config
  /-- The MODEL's field: the steps the agents are given to take, first to take first (assumption log 5). -/
  sched : List Entry
  /-- The MODEL's field: the events emitted so far, oldest first (R10 `emit`, R98; assumption log 8). -/
  events : List Event
  /-- The MODEL's field: how many free values have been drawn (R10 `draw`; assumption log 4). -/
  draws : Nat
  deriving DecidableEq, Repr

/-- The states the rules prove unreachable, in which R10, R58 and R60 let a model fault. Each is safe:
the model stops in a state no run of the core reaches. -/
inductive Fault where
  /-- Raised by a step of the sequencer that finds `SEQ` at `100`, `101` or `110` (R58, R60). Safe. -/
  | seqUnused
  /-- Raised by IR_EDGE, by a watchdog overflow and by DECODE, where they read `IDX` above 34 (R60). Safe. -/
  | idxOutOfRange
  /-- Raised by SETTLE with the latch clear where `ACTION` is no motion action, so that `DIR_PATTERN` has
  no entry to assert (R90, R120 item 8: unreachable; assumption log 9). Safe. -/
  | settleWithoutPattern
  deriving DecidableEq, Repr

/-- What a model refuses. Each is safe: nothing follows about a step that is refused. -/
inductive Refusal where
  /-- Raised by an arm of `exec` whose instruction has no meaning yet; no arm raises it. Safe. -/
  | notModelled (mnemonic : String)
  /-- Raised by `step`: the configuration breaks a clause of R7, so there is no machine for it. Safe. -/
  | configIllFormed
  /-- Raised by `step` for a trace entry of `CLK`, `IR` or `ESTOP` with `SQ` or `AC` not `000` (R60). Safe. -/
  | selectorNonCanonical
  /-- Raised by `step` for a trace entry with `STEP = 11` and `SQ` unused (R60). Safe. -/
  | selectorUnused
  /-- Raised by `step` and by the meanings of the sequencer's operations and of WDT_OVF: the selector is
  not a step of this state (R59). Safe. -/
  | selectorDisagrees
  deriving DecidableEq, Repr

/-- The initial states of R110: the configuration and the three values the spec leaves unspecified
(`BUF`, `CMD`, `IND_PARITY`) are arguments. -/
def State.resetWith (cfg : Config) (buf : FrameBuffer) (cmd : Command) (indParity : Bool) : State where
  edgeCnt := 0
  wdtCnt := 0
  idx := 0#6
  buf := buf
  cmd := cmd
  action := .stop
  speed := BitVec.ofNat 8 cfg.speedReset
  acc := false
  indParity := indParity
  seq := Seq.boot
  settleCnt := 0
  estopLatch := false
  gie := false
  dirA := Direction.off
  dirB := Direction.off
  pwmA := 0#8
  pwmB := 0#8
  cfg := cfg
  sched := []
  events := []
  draws := 0

/-- The machine right after reset: R110 at the configuration EX, with the unspecified registers 0
(DESIGN CHOICE, assumption logs 1 and 3). -/
def State.reset : State :=
  State.resetWith Config.ex (Vector.replicate 34 0) 0#32 false

end Sys2Proof.Machine
end

