-- ==== Sys2Proof/Machine/Ops.lean ====
section
/-! DEFINITION. The named operations over the state: the frame buffer's slots (`spec/20_memory.md` R40),
the event trace, and the register writes that several operations share. The core takes no synchronous
exception (`60_exceptions.md` R97) and has no entry or return sequence (R103, R104): an event reaction is
a whole step, so nothing is saved or restored here. -/

namespace Sys2Proof.Machine

/-- The three outcomes of an operation. -/
abbrev Result := Host.Outcome State Fault Refusal

/-- `BUF[k]`. No step forms a slot number outside 0 to 33 (R40, R42). -/
def readSlot (b : FrameBuffer) (k : Nat) : Nat :=
  if h : k < 34 then b[k] else 0

/-- `BUF[k] <- v`. -/
def writeSlot (b : FrameBuffer) (k v : Nat) : FrameBuffer :=
  if h : k < 34 then b.set k v else b

/-- `emit E` (R10): append an event to the run's trace. -/
def State.emit (s : State) (e : Event) : State :=
  { s with events := s.events ++ [e] }

/-- De-energize the motor outputs: both directions OFF and both compare values 0 (R37, R81, R86, R93). -/
def State.deEnergize (s : State) : State :=
  { s with dirA := Direction.off, dirB := Direction.off, pwmA := 0#8, pwmB := 0#8 }

/-- Write one compare value to both channels (R87, R88, R90). -/
def State.setPwm (s : State) (v : Level) : State :=
  { s with pwmA := v, pwmB := v }

/-- Assert a direction pattern (R90). -/
def State.setDir (s : State) (p : Direction × Direction) : State :=
  { s with dirA := p.1, dirB := p.2 }

/-- `SEQ <- q`. -/
def State.goto (s : State) (q : Code3) : State :=
  { s with seq := q }

/-- `WDT_CNT <- n`. -/
def State.setWdt (s : State) (n : Nat) : State :=
  { s with wdtCnt := n }

/-- `IDX <- v`. -/
def State.setIdx (s : State) (v : FrameIndex) : State :=
  { s with idx := v }

/-- Replace the contents of `BUF`. -/
def State.setBuf (s : State) (b : FrameBuffer) : State :=
  { s with buf := b }

/-- `CMD <- v`. -/
def State.setCmd (s : State) (v : Command) : State :=
  { s with cmd := v }

/-- `ACTION <- a`. -/
def State.setAction (s : State) (a : Action) : State :=
  { s with action := a }

/-- `SPEED <- v`. -/
def State.setSpeed (s : State) (v : Level) : State :=
  { s with speed := v }

/-- `ACC <- b`. -/
def State.setAcc (s : State) (b : Bool) : State :=
  { s with acc := b }

/-- `SETTLE_CNT <- n`. -/
def State.setSettle (s : State) (n : Nat) : State :=
  { s with settleCnt := n }

/-- `ESTOP_LATCH <- b`. -/
def State.setLatch (s : State) (b : Bool) : State :=
  { s with estopLatch := b }

/-- `GIE <- b`. -/
def State.setGie (s : State) (b : Bool) : State :=
  { s with gie := b }

/-- Clear the edge counter and the watchdog counter: every accepted edge and BOOT (R62, R111). -/
def State.clearTimers (s : State) : State :=
  { s with edgeCnt := 0, wdtCnt := 0 }

/-- The part of a tick that does not depend on the watchdog (R65): the edge counter wraps modulo 2^W and
the settling counter goes down to 0. -/
def State.countTick (s : State) : State :=
  { s with edgeCnt := (s.edgeCnt + 1) % 2 ^ s.cfg.cntWidth, settleCnt := s.settleCnt - 1 }

/-- `draw p; IND_PARITY <- p` (R78): the free value of this draw, and the counter moves on. -/
def State.drawParity (s : State) : State :=
  { s with indParity := Config.freeParity s.draws, draws := s.draws + 1 }

/-- What is left of the schedule. -/
def State.setSched (s : State) (l : List Entry) : State :=
  { s with sched := l }

/-- A free value has been drawn. -/
def State.nextDraw (s : State) : State :=
  { s with draws := s.draws + 1 }

/-- A step of the sequencer in state `q` (R58, R59): in another legal state the selector is not a step of
this state and is refused; an unused code faults (R60). -/
def atSeq (q : Code3) (s : State) (r : Result) : Result :=
  if s.seq = q then r
  else if Seq.legal s.seq then .refused .selectorDisagrees
  else .fault .seqUnused

/-- A step of the action multiplexer (`43_dispatch.md` R80): S_ACT with `ACTION = a`. -/
def atAct (a : Action) (s : State) (r : Result) : Result :=
  atSeq Seq.act s (if s.action = a then r else .refused .selectorDisagrees)

end Sys2Proof.Machine
end

