-- ==== Sys2Proof/Machine/Flags.lean ====
section
/-! DEFINITION. The derived predicates and the ports: the core has no condition codes and no status
register (`spec/10_state.md` R38); its flags are the frame-complete predicate, `GIE` and `ESTOP_LATCH`.
Ports follow their registers (R33 to R36). -/

namespace Sys2Proof.Machine

/-- "Frame complete": `IDX = 34`; it has no storage of its own (R20). -/
def State.frameComplete (s : State) : Bool :=
  decide (s.idx.toNat = nSlots)

/-- The motor outputs are de-energized (R37). -/
def State.deEnergized (s : State) : Bool :=
  s.dirA == Direction.off && s.dirB == Direction.off && s.pwmA == 0#8 && s.pwmB == 0#8

/-- A channel is energized: its direction is `10` or `01` and its compare value is above 0 (R37). -/
def channelEnergized (d : Direction) (v : Level) : Bool :=
  (d == Direction.forward || d == Direction.reverse) && decide (0 < v.toNat)

/-- The sequencer holds in this state (R58, R76, R90): it has no step until a frame completes or the
settling delay ends. -/
def State.seqHolds (s : State) : Bool :=
  (s.seq == Seq.idle && decide (s.idx.toNat < nSlots)) ||
    (s.seq == Seq.settle && decide (0 < s.settleCnt))

/-- The output ports (R33 to R36). -/
structure Ports where
  dirA : Direction
  dirB : Direction
  pwmA : Level
  pwmB : Level
  accOut : Bool
  actOut : Code3
  deriving DecidableEq, Repr

/-- The port values of a state: each follows its register (R33 to R36). -/
def State.ports (s : State) : Ports where
  dirA := s.dirA
  dirB := s.dirB
  pwmA := s.pwmA
  pwmB := s.pwmB
  accOut := s.acc
  actOut := s.action.code

/-- A sample was lost (R98, R113). -/
def Event.isEdgeLost : Event → Bool
  | .edgeLost _ => true
  | .frameAbort _ | .unknownCmd _ | .estop | .frameDecoded _ | .dispatched _ => false

/-- The class code of an error event: 1 to 3 for the source's (a) to (c), none for the others (R98). -/
def Event.classCode : Event → Option Nat
  | .frameAbort _ => some 1
  | .unknownCmd _ => some 2
  | .estop => some 3
  | .edgeLost _ | .frameDecoded _ | .dispatched _ => none

end Sys2Proof.Machine
end

