-- ==== Sys2Proof/Machine/Operands.lean ====
section
/-! DEFINITION. The values the operations compute from their operands: the decoded bit and command
(`spec/42_decode.md` R73 to R75), the dispatcher's lookup (`43_dispatch.md` R79), the saturated speed
(`44_actuator.md` R87, R88) and the direction pattern of an action (`30_encoding.md` R57). -/

namespace Sys2Proof.Machine

/-- `bit(s) = 1 if s > T_ONE else 0`, strictly (R74). -/
def sampleBit (c : Config) (v : Nat) : Bool :=
  decide (c.tOne < v)

/-- One iteration of the decoder's loop: `acc <- ((acc * 2) mod 2^32) + bit(BUF[x])` (R73). -/
def shiftIn (c : Config) (b : FrameBuffer) (acc : Command) (x : Nat) : Command :=
  acc * 2#32 + (if sampleBit c (readSlot b x) then 1#32 else 0#32)

/-- The decoder's loop, x from 2 to 33, from an accumulator of 0 (R73, D37). -/
def decodeFrame (c : Config) (b : FrameBuffer) : Command :=
  (List.range' nSkip nData).foldl (shiftIn c b) 0#32

/-- `lookup : [0, 2^32) → Action` (R79). -/
def lookup (c : Config) (v : Command) : Action :=
  if v = c.codeFwd then .fwd
  else if v = c.codeBwd then .bwd
  else if v = c.codeLeft then .left
  else if v = c.codeRight then .right
  else if v = c.codeSpeedup then .speedup
  else if v = c.codeSlowdown then .slowdown
  else if v = c.codeAcc then .accToggle
  else .stop

/-- `min(SPEED + SPEED_STEP, SPEED_MAX)`, computed on naturals (R87). -/
def speedUp (v : Level) : Level :=
  BitVec.ofNat 8 (min (v.toNat + speedStep) speedMax)

/-- `max(SPEED - SPEED_STEP, SPEED_MIN)`, computed on integers, no wrap below 0 (R88). -/
def speedDown (v : Level) : Level :=
  BitVec.ofNat 8 (max ((v.toNat : Int) - (speedStep : Int)) (speedMin : Int)).toNat

/-- `DIR_PATTERN(a)`: an entry for each motion action and none for the others (R57). -/
def patternOf (c : Config) : Action → Option (Direction × Direction)
  | .fwd => some c.dirPattern.fwd
  | .bwd => some c.dirPattern.bwd
  | .left => some c.dirPattern.left
  | .right => some c.dirPattern.right
  | .stop | .speedup | .slowdown | .accToggle => none

end Sys2Proof.Machine
end

