-- ==== Sys2Proof/Machine/Actuator.lean ====
section
/-! DEFINITION. The motor and accessory actuator: the sequencer's states S_ACT and S_SETTLE
(`spec/44_actuator.md`). Each action operation has the guard of its row, `SEQ = S_ACT` and its own
`ACTION` (`43_dispatch.md` R80). -/

namespace Sys2Proof.Machine

/-- Motion-action entry (R81): de-energize, load the settling delay, wait in S_SETTLE. -/
def motionEntry (s : State) : State :=
  (s.deEnergize.setSettle s.cfg.tSettle).goto Seq.settle

/-- Write a new speed level, to the compare values too unless the latch is set (R87, R88, R94). -/
def applySpeed (s : State) (v : Level) : State :=
  if s.estopLatch then s.setSpeed v else (s.setSpeed v).setPwm v

/-- ACT.STOP (R86). -/
def execActStop (s : State) : Result :=
  atAct .stop s (.next (s.deEnergize.goto Seq.idle))

/-- ACT.FWD (R82): the motion-action entry of R81. -/
def execActFwd (s : State) : Result :=
  atAct .fwd s (.next (motionEntry s))

/-- ACT.BWD (R83): the motion-action entry of R81. -/
def execActBwd (s : State) : Result :=
  atAct .bwd s (.next (motionEntry s))

/-- ACT.LEFT (R84): the motion-action entry of R81. -/
def execActLeft (s : State) : Result :=
  atAct .left s (.next (motionEntry s))

/-- ACT.RIGHT (R85): the motion-action entry of R81. -/
def execActRight (s : State) : Result :=
  atAct .right s (.next (motionEntry s))

/-- ACT.SPEEDUP (R87). -/
def execActSpeedup (s : State) : Result :=
  atAct .speedup s (.next ((applySpeed s (speedUp s.speed)).goto Seq.idle))

/-- ACT.SLOWDOWN (R88). -/
def execActSlowdown (s : State) : Result :=
  atAct .slowdown s (.next ((applySpeed s (speedDown s.speed)).goto Seq.idle))

/-- ACT.ACC_TOGGLE (R89): `ACC <- 1 - ACC`. -/
def execActAccToggle (s : State) : Result :=
  atAct .accToggle s (.next ((s.setAcc (!s.acc)).goto Seq.idle))

/-- The end of the settling delay (R90): with the latch clear, the action's pattern and the speed; with
it set, no output. A non-motion action, which the rules prove unreachable here, has no pattern. -/
def assertMotion (s : State) : Result :=
  if s.estopLatch then .next (s.goto Seq.idle)
  else
    match patternOf s.cfg s.action with
    | some p => .next (((s.setDir p).setPwm s.speed).goto Seq.idle)
    | none => .fault .settleWithoutPattern

/-- SETTLE (R90): enabled when the delay has run out; until then the sequencer holds. -/
def execSettle (s : State) : Result :=
  atSeq Seq.settle s (if s.settleCnt = 0 then assertMotion s else .next s)

end Sys2Proof.Machine
end

