-- ==== Sys2Proof/Machine/Boot.lean ====
section
/-! DEFINITION. The boot step (`spec/70_reset_and_hazards.md` R111). -/

namespace Sys2Proof.Machine

/-- BOOT (R111): clear the two counters and the index, enable the events, enter S_IDLE. -/
def execBoot (s : State) : Result :=
  atSeq Seq.boot s (.next (((s.clearTimers.setIdx 0#6).setGie true).goto Seq.idle))

end Sys2Proof.Machine
end

