-- ==== Sys2Proof/Machine/Capture.lean ====
section
/-! DEFINITION. The edge timer, the frame capture buffer and the timeout watchdog (`spec/41_capture.md`):
TICK, WDT_OVF and IR_EDGE. -/

namespace Sys2Proof.Machine

/-- This tick takes the watchdog from `WDT_PERIOD - 1`: it is an overflow (R65, R66). -/
def State.wdtExpires (s : State) : Bool :=
  decide (s.wdtCnt = s.cfg.wdtPeriod - 1)

/-- WDT_OVF inside its tick (R66): with `GIE = 1` the frame index is reset, and a frame in progress is
reported. `IDX` above 34 faults (R60). -/
def abortFrame (s : State) : Result :=
  if s.gie then
    if nSlots < s.idx.toNat then .fault .idxOutOfRange
    else if 0 < s.idx.toNat then .next ((s.emit (.frameAbort s.idx.toNat)).setIdx 0#6)
    else .next (s.setIdx 0#6)
  else .next s

/-- The whole overflowing tick (R65, R66). -/
def overflowTick (s : State) : Result :=
  abortFrame (s.countTick.setWdt 0)

/-- TICK (R65): the whole of the rule's pseudocode, the overflow among it. -/
def execTick (s : State) : Result :=
  if s.wdtExpires then overflowTick s
  else .next (s.countTick.setWdt (s.wdtCnt + 1))

/-- WDT_OVF (R66): the tick at `WDT_CNT = WDT_PERIOD - 1`; at any other count there is no overflow, and
the operation is not a step of the state (R59). -/
def execWdtOvf (s : State) : Result :=
  if s.wdtExpires then overflowTick s else .refused .selectorDisagrees

/-- An accepted edge stores its sample in slot `IDX` (R62). -/
def storeSample (s : State) : State :=
  (s.clearTimers.setBuf (writeSlot s.buf s.idx.toNat s.edgeCnt)).setIdx (s.idx + 1#6)

/-- An accepted edge at a full buffer (R63): DROP leaves the buffer, OVERWRITE_LAST replaces slot 33. -/
def loseSample (s : State) : State :=
  (match s.cfg.fullPolicy with
    | .drop => s.clearTimers
    | .overwriteLast => s.clearTimers.setBuf (writeSlot s.buf 33 s.edgeCnt)).emit
  (.edgeLost s.edgeCnt)

/-- IR_EDGE (R62 to R64). `IDX` above 34 faults (R60). -/
def execIrEdge (s : State) : Result :=
  if s.gie then
    if s.idx.toNat < nSlots then .next (storeSample s)
    else if s.idx.toNat = nSlots then .next (loseSample s)
    else .fault .idxOutOfRange
  else .next s

end Sys2Proof.Machine
end

