-- ==== Sys2Proof/Machine/Decoder.lean ====
section
/-! DEFINITION. The bit-threshold decoder: the sequencer's state S_IDLE (`spec/42_decode.md`). -/

namespace Sys2Proof.Machine

/-- The latch after a DECODE (`45_estop.md` R95). -/
def latchAfterDecode (s : State) : Bool :=
  match s.cfg.estopRelease with
  | .nextDecode => false
  | .never => s.estopLatch

/-- A complete frame becomes the command, in one step (R73). -/
def takeFrame (s : State) : State :=
  ((((s.setCmd (decodeFrame s.cfg s.buf)).setIdx 0#6).setLatch (latchAfterDecode s)).emit
    (.frameDecoded (decodeFrame s.cfg s.buf))).goto Seq.dispatch

/-- DECODE (R73): enabled when the frame is complete; with fewer samples the sequencer holds and nothing
changes (R76). `IDX` above 34 faults (R60). -/
def execDecode (s : State) : Result :=
  atSeq Seq.idle s
    (if s.frameComplete then .next (takeFrame s)
     else if s.idx.toNat < nSlots then .next s
     else .fault .idxOutOfRange)

end Sys2Proof.Machine
end

