-- ==== Sys2Proof/Machine/Dispatcher.lean ====
section
/-! DEFINITION. The command dispatcher: the sequencer's state S_DISPATCH (`spec/43_dispatch.md`). -/

namespace Sys2Proof.Machine

/-- `emit UNKNOWN_CMD(CMD)` where the command is not in the table (R78). -/
def State.emitUnknown (s : State) : State :=
  if s.cmd ∈ s.cfg.codes then s else s.emit (.unknownCmd s.cmd)

/-- DISPATCH (R78): look the command up, draw the indicator parity, report. -/
def execDispatch (s : State) : Result :=
  atSeq Seq.dispatch s
    (.next (((s.drawParity.setAction (lookup s.cfg s.cmd)).emit
      (.dispatched (lookup s.cfg s.cmd))).emitUnknown.goto Seq.act))

end Sys2Proof.Machine
end

