-- ==== Sys2Proof/Machine/Estop.lean ====
section
/-! DEFINITION. The emergency-stop override (`spec/45_estop.md`). -/

namespace Sys2Proof.Machine

/-- ESTOP_EDGE (R93): in any state, not gated by `GIE`. -/
def execEstopEdge (s : State) : Result :=
  .next ((s.deEnergize.setLatch true).emit .estop)

end Sys2Proof.Machine
end

