-- ==== Sys2Proof/Machine/Dispatch.lean ====
section
/-! DEFINITION. The meaning of each operation: one arm per row of the opcode table. -/

namespace Sys2Proof.Machine

def exec (i : Instr) (s : State) : Host.Outcome State Fault Refusal :=
  match i with
  | .tick => Sys2Proof.Machine.execTick s
  | .wdtOvf => Sys2Proof.Machine.execWdtOvf s
  | .irEdge => Sys2Proof.Machine.execIrEdge s
  | .estopEdge => Sys2Proof.Machine.execEstopEdge s
  | .boot => Sys2Proof.Machine.execBoot s
  | .decode => Sys2Proof.Machine.execDecode s
  | .dispatch => Sys2Proof.Machine.execDispatch s
  | .actStop => Sys2Proof.Machine.execActStop s
  | .actFwd => Sys2Proof.Machine.execActFwd s
  | .actBwd => Sys2Proof.Machine.execActBwd s
  | .actLeft => Sys2Proof.Machine.execActLeft s
  | .actRight => Sys2Proof.Machine.execActRight s
  | .actSpeedup => Sys2Proof.Machine.execActSpeedup s
  | .actSlowdown => Sys2Proof.Machine.execActSlowdown s
  | .actAccToggle => Sys2Proof.Machine.execActAccToggle s
  | .settle => Sys2Proof.Machine.execSettle s

end Sys2Proof.Machine
end

