-- ==== Sys2Proof/Machine/Schedule.lean ====
section
/-! DEFINITION. Which step comes next. The core fetches no instructions (`spec/10_state.md` R17): an agent
steps, and the operation follows from the agent and the state (`30_encoding.md` R59, `43_dispatch.md`
R80). Here: the operation of an agent in a state, the selector that labels it, the order of the steps of
an instant (`60_exceptions.md` R102), and the reading of the schedule (R61). -/

namespace Sys2Proof.Machine

/-- The operation an agent performs in a state: a tick at `WDT_PERIOD - 1` is the overflow (R66), and the
sequencer does what `SEQ` and `ACTION` say (R58, R80). None where `SEQ` is unused (R60). -/
def agentInstr (a : Agent) (s : State) : Option Instr :=
  match a with
  | .clk => some (if s.wdtExpires then .wdtOvf else .tick)
  | .ir => some .irEdge
  | .estop => some .estopEdge
  | .seq =>
    if s.seq = Seq.boot then some .boot
    else if s.seq = Seq.idle then some .decode
    else if s.seq = Seq.dispatch then some .dispatch
    else if s.seq = Seq.act then some s.action.instr
    else if s.seq = Seq.settle then some .settle
    else none

/-- The selector that labels an agent's step in a state (R59). -/
def selectorOf (a : Agent) (s : State) : Selector where
  step := a.stepCode
  sq := if a = .seq then s.seq else 0#3
  ac := if a = .seq ∧ s.seq = Seq.act then s.action.code else 0#3

/-- Two operations are told apart by state, not by selector bits: TICK at `WDT_PERIOD - 1` is WDT_OVF
(R59, R66). -/
def resolve (s : State) (i : Instr) : Instr :=
  if i = .tick ∧ s.wdtExpires then .wdtOvf else i

/-- The refusal of a selector that names no step (R59, R60). -/
def refusalOf : SelectorError → Refusal
  | .nonCanonical => .selectorNonCanonical
  | .unusedSequencer => .selectorUnused
  | .strayAction => .selectorDisagrees

/-- The members of an instant in the fixed order of R102: every IR_EDGE, the TICK, the steps of the
sequencer, every ESTOP_EDGE. -/
def instantMembers (j : Instant) : List Agent :=
  List.replicate j.ir .ir ++ (if j.clk then [.clk] else []) ++
    List.replicate j.seq .seq ++ List.replicate j.estop .estop

/-- An instant without one step of one of its members. -/
def instantWithout (j : Instant) : Agent → Instant
  | .ir => { j with ir := j.ir - 1 }
  | .clk => { j with clk := false }
  | .seq => { j with seq := j.seq - 1 }
  | .estop => { j with estop := j.estop - 1 }

/-- The schedule after an instant has lost a member: an instant with no member left is done. -/
def instantThen (j : Instant) (r : List Entry) : List Entry :=
  if instantMembers j = [] then r else .instant j :: r

/-- Which member steps first (R102): under FIXED the first in the fixed order, under ANY a free choice. -/
def firstOf (o : SimulOrder) (draws : Nat) (l : List Agent) : Option Agent :=
  match o with
  | .fixed => l.head?
  | .any => l[Config.freePick draws % l.length]?

/-- One step of an agent from a state whose schedule has already moved on. -/
def fetchAgent (a : Agent) (s : State) : Host.Outcome (Instr × State) Fault Refusal :=
  match agentInstr a s with
  | some i => .next (i, s)
  | none => .fault .seqUnused

/-- One trace entry (R59, R60): a selector that names no step is refused. -/
def fetchWord (w : SelectorWord) (s : State) : Host.Outcome (Instr × State) Fault Refusal :=
  match decodeWord w with
  | .ok i => .next (resolve s i, s)
  | .error e => .refused (refusalOf e)

/-- The next operation of a schedule and the state it runs from. An empty schedule leaves the choice of
the agent free (R11); an instant with no member is passed over, and so is `run` where the sequencer holds:
it stands for the sequencer's steps up to the hold (R61). -/
def fetchFrom (s : State) : List Entry → Host.Outcome (Instr × State) Fault Refusal
  | [] => fetchAgent (Config.freeAgent s.draws) (s.setSched []).nextDraw
  | .word w :: r => fetchWord w (s.setSched r)
  | .agent a :: r => fetchAgent a (s.setSched r)
  | .instant j :: r =>
    match firstOf s.cfg.simulOrder s.draws (instantMembers j) with
    | some a => fetchAgent a (s.setSched (instantThen (instantWithout j a) r)).nextDraw
    | none => fetchFrom s r
  | .run :: r =>
    if s.seqHolds then fetchFrom s r else fetchAgent .seq (s.setSched (.run :: r))

/-- The next operation of the machine and the state it runs from; there is no machine for an ill-formed
configuration (`00_scope.md` R7). -/
def fetch (s : State) : Host.Outcome (Instr × State) Fault Refusal :=
  if s.cfg.wf then fetchFrom s s.sched else .refused .configIllFormed

/-- What the state must hold for a selector to be a step of it (R59), beside its place in the schedule:
for the sequencer `SEQ` is `SQ`, `ACTION` is `AC` in S_ACT, the frame is complete for DECODE, and the
delay has run out, with a motion action pending, for SETTLE (R73, R90). -/
def State.placed (s : State) (i : Instr) : State :=
  match i with
  | .tick | .wdtOvf | .irEdge | .estopEdge => s
  | .boot => s.goto Seq.boot
  | .decode => (s.goto Seq.idle).setIdx 34#6
  | .dispatch => s.goto Seq.dispatch
  | .actStop => (s.goto Seq.act).setAction .stop
  | .actFwd => (s.goto Seq.act).setAction .fwd
  | .actBwd => (s.goto Seq.act).setAction .bwd
  | .actLeft => (s.goto Seq.act).setAction .left
  | .actRight => (s.goto Seq.act).setAction .right
  | .actSpeedup => (s.goto Seq.act).setAction .speedup
  | .actSlowdown => (s.goto Seq.act).setAction .slowdown
  | .actAccToggle => (s.goto Seq.act).setAction .accToggle
  | .settle =>
    ((s.goto Seq.settle).setSettle 0).setAction (if s.action.isMotion then s.action else .fwd)

/-- Place a selector as the next entry of the schedule, in a state of which it is a step. -/
def State.place (s : State) (w : SelectorWord) : State :=
  match decodeWord w with
  | .ok i => (s.placed i).setSched (.word w :: s.sched)
  | .error _ => s.setSched (.word w :: s.sched)

end Sys2Proof.Machine
end

