-- ==== Sys2Proof/Machine/Step.lean ====
section
/-! DEFINITION. One step of the machine: the next operation of the schedule, run by its meaning. -/

namespace Sys2Proof.Machine

/-- One step (`spec/00_scope.md` R11, R12): one agent, one operation, atomically. -/
def step (s : State) : Host.Outcome State Fault Refusal :=
  match fetch s with
  | .next (i, s') => exec i s'
  | .fault f => .fault f
  | .refused r => .refused r

/-- `s` with the table word `w` as the next entry of its schedule and the sequencer where that selector
is a step (assumption log 7). A selector is one byte whatever `nbits` is. -/
def State.withFetchWord (s : State) (_nbits w : Nat) : State :=
  s.place (BitVec.ofNat 8 w)

end Sys2Proof.Machine
end

