-- ==== Sys2Proof/Machine/Trace.lean ====
section
/-! DEFINITION. The trace lines of `spec/30_encoding.md` R61 and their expansions, as schedules. -/

namespace Sys2Proof.Machine

/-- `tick n`. -/
def traceTick (n : Nat) : List Entry :=
  List.replicate n (.agent .clk)

/-- `edge`. -/
def traceEdge : List Entry := [.agent .ir]

/-- `estop`. -/
def traceEstop : List Entry := [.agent .estop]

/-- `seq n`. -/
def traceSeq (n : Nat) : List Entry :=
  List.replicate n (.agent .seq)

/-- `gap n`: `tick n`, then `edge`. -/
def traceGap (n : Nat) : List Entry :=
  traceTick n ++ traceEdge

/-- The gap that sends bit k of a command: `o` for a 1, `z` for a 0. -/
def bitGap (c : Command) (z o k : Nat) : Nat :=
  if c.getLsbD k then o else z

/-- The 34 gaps of `frame c, g0, g1, z, o`: two leading gaps, then the bits from 31 down to 0. -/
def frameGaps (c : Command) (g0 g1 z o : Nat) : List Nat :=
  g0 :: g1 :: (List.range nData).map (fun k => bitGap c z o (31 - k))

/-- `frame c, g0, g1, z, o`. -/
def traceFrame (c : Command) (g0 g1 z o : Nat) : List Entry :=
  (frameGaps c g0 g1 z o).flatMap traceGap

/-- `run`: `seq` until the sequencer holds, no step where it holds already. -/
def traceRun : List Entry := [.run]

/-- The byte a step of an agent is encoded as in a trace (R61). -/
def traceByte (a : Agent) (s : State) : SelectorWord :=
  (selectorOf a s).toWord

end Sys2Proof.Machine
end

