-- ==== Sys2Proof/Safety.lean ====
section
/-! DEFINITION. The terms claims are stated in: runs of the agents (`spec/00_scope.md` R12, R13), the
invariants of every reachable state (`70_reset_and_hazards.md` R120), the edges of the sequencer's graph
(`30_encoding.md` R58), and the named assumptions of `70_reset_and_hazards.md` (R113, R114, R119). -/

namespace Sys2Proof.Machine

/-- A finite run from `s` to `t` in which the operations `is` are performed in order, each by its agent
where it is that agent's operation (R12, R59). -/
def Path : List Instr → State → State → Prop
  | [], s, t => s = t
  | i :: is, s, t => agentInstr i.agent s = some i ∧ ∃ m, exec i s = .next m ∧ Path is m t

/-- The agents of a gap of `g` ticks and the edge that ends it (R61). -/
def gapAgents (g : Nat) : List Agent :=
  List.replicate g .clk ++ [.ir]

/-- How many of the operations are ticks: TICK, or the tick that overflows (R65, R66). -/
def ticksIn (is : List Instr) : Nat :=
  is.count .tick + is.count .wdtOvf

/-- An infinite run: the agent `σ n` takes the n-th step, from `ρ n` to `ρ (n + 1)` (R12). -/
def AgentRun (σ : Nat → Agent) (ρ : Nat → State) : Prop :=
  ∀ n, ∃ i, agentInstr (σ n) (ρ n) = some i ∧ exec i (ρ n) = .next (ρ (n + 1))

/-- Time passes: the clock steps infinitely often (R13). -/
def ClkFair (σ : Nat → Agent) : Prop :=
  ∀ n, ∃ m, n ≤ m ∧ σ m = .clk

/-- Weak fairness of the sequencer: continuously enabled, it eventually steps (R13). -/
def SeqFair (σ : Nat → Agent) (ρ : Nat → State) : Prop :=
  ∀ n, (∀ m, n ≤ m → (ρ m).seqHolds = false) → ∃ m, n ≤ m ∧ σ m = .seq

/-- The assumption `A_DRAIN`: no IR_EDGE is taken while the frame is complete (R113). -/
def ADrain (σ : Nat → Agent) (ρ : Nat → State) : Prop :=
  ∀ n, σ n = .ir → (ρ n).frameComplete = false

/-- The assumption `A_PERIOD` on the longest gap inside a transmission and the shortest idle time before
one (R114). -/
def APeriod (c : Config) (gMax gIdle : Nat) : Prop :=
  gMax < c.wdtPeriod ∧ c.wdtPeriod ≤ gIdle

/-- The number of ticks among the steps from `n` up to, not including, `m`. -/
def ticksBetween (σ : Nat → Agent) (n m : Nat) : Nat :=
  ((List.range' n (m - n)).filter (fun k => decide (σ k = .clk))).length

/-- The assumption `L_SEQ`: at most `bound` ticks pass while the sequencer is enabled and does not step
(R119). -/
def LSeq (bound : Nat) (σ : Nat → Agent) (ρ : Nat → State) : Prop :=
  ∀ n m, n ≤ m → (∀ k, n ≤ k → k < m → (ρ k).seqHolds = false ∧ σ k ≠ .seq) →
    ticksBetween σ n m ≤ bound

/-- The edges of the sequencer's graph, with the operation and the action that takes each (R58). -/
def seqEdge (i : Instr) (a : Action) (q q' : Code3) : Bool :=
  (i == .boot && q == Seq.boot && q' == Seq.idle) ||
  (i == .decode && q == Seq.idle && q' == Seq.dispatch) ||
  (i == .dispatch && q == Seq.dispatch && q' == Seq.act) ||
  (i == a.instr && a.isMotion && q == Seq.act && q' == Seq.settle) ||
  (i == a.instr && !a.isMotion && q == Seq.act && q' == Seq.idle) ||
  (i == .settle && q == Seq.settle && q' == Seq.idle)

/-- The registers and ports of a state without the trace of its events, which labels the run and is no
register (R98). -/
def State.registers (s : State) : State :=
  { s with events := [] }

/-- The invariants of every reachable state of a well-formed configuration (R120), with the
configuration's own and the width of the samples (R18). -/
structure Inv (s : State) : Prop where
  /-- The configuration is well formed (R7). -/
  config : s.cfg.wf = true
  /-- Item 1. -/
  index : s.idx.toNat ≤ nSlots
  /-- Item 2: `SEQ` is a legal code. -/
  seqLegal : Seq.legal s.seq = true
  /-- Item 2: S_BOOT if and only if `GIE = 0`. -/
  boot : s.seq = Seq.boot ↔ s.gie = false
  /-- Item 3. -/
  indexGated : s.gie = false → s.idx = 0#6
  /-- Item 4. -/
  speed : speedMin ≤ s.speed.toNat ∧ s.speed.toNat ≤ speedMax
  /-- Item 5, channel A. -/
  pwmA : s.pwmA = 0#8 ∨ (speedMin ≤ s.pwmA.toNat ∧ s.pwmA.toNat ≤ speedMax)
  /-- Item 5, channel B. -/
  pwmB : s.pwmB = 0#8 ∨ (speedMin ≤ s.pwmB.toNat ∧ s.pwmB.toNat ≤ speedMax)
  /-- Item 6. -/
  dir : s.dirA ≠ Direction.reserved ∧ s.dirB ≠ Direction.reserved
  /-- Item 7. -/
  latch : s.estopLatch = true → s.deEnergized = true
  /-- Item 8. -/
  settling : s.seq = Seq.settle → s.action.isMotion = true ∧ s.deEnergized = true
  /-- Item 9. -/
  settleBound : s.settleCnt ≤ s.cfg.tSettle
  /-- Item 9. -/
  settleOnly : 0 < s.settleCnt → s.seq = Seq.settle
  /-- Item 10. -/
  counters : s.wdtCnt < s.cfg.wdtPeriod ∧ s.edgeCnt < 2 ^ s.cfg.cntWidth
  /-- Item 10. -/
  sameCount : s.cfg.wdtPeriod = 2 ^ s.cfg.cntWidth → s.wdtCnt = s.edgeCnt
  /-- Item 11. -/
  ports : s.ports.actOut = s.action.code ∧ s.ports.accOut = s.acc
  /-- Every slot holds a sample of W bits (R18). -/
  samples : ∀ k, k < nSlots → readSlot s.buf k < 2 ^ s.cfg.cntWidth

end Sys2Proof.Machine
end

