-- ==== Sys2Proof/Certificates/Slice0/Obligations.lean ====
section
/-! DEFINITION. The statements for the provers, from the numbered rules of `spec/`, file by file. A next
state written `{ s with … }` says what the operation writes and that nothing else changes. -/

open Sys2Proof Sys2Proof.Machine

/-! Reset and boot (`70_reset_and_hazards.md`). -/

/-- R110: the state after reset, for every configuration and every value of the three registers the
rule leaves unspecified. -/
def Obligations.ResetLeavesCoreStopped : Prop :=
  ∀ (c : Config) (buf : FrameBuffer) (cmd : Command) (p : Bool),
    let s := State.resetWith c buf cmd p
    s.seq = 0b111#3 ∧ s.gie = false ∧ s.edgeCnt = 0 ∧ s.wdtCnt = 0 ∧ s.idx = 0#6 ∧ s.settleCnt = 0 ∧
      s.estopLatch = false ∧ s.action = .stop ∧ s.ports.actOut = 0b000#3 ∧
      (c.wf = true → s.speed.toNat = c.speedReset) ∧ s.acc = false ∧ s.ports.accOut = false ∧
      s.dirA = 0b00#2 ∧ s.dirB = 0b00#2 ∧ s.pwmA = 0#8 ∧ s.pwmB = 0#8 ∧ s.deEnergized = true ∧
      s.buf = buf ∧ s.cmd = cmd ∧ s.indParity = p ∧ s.cfg = c

/-- R120 at the initial states: every well-formed configuration's reset state meets the invariants,
whatever the unspecified registers hold. The last clause is about the model's own choice of reset state
(assumption logs 1 and 3). -/
def Obligations.ResetMeetsInvariants : Prop :=
  (∀ (c : Config) (buf : FrameBuffer) (cmd : Command) (p : Bool), c.wf = true →
    (∀ k, k < 34 → readSlot buf k < 2 ^ c.cntWidth) → Inv (State.resetWith c buf cmd p)) ∧
  Inv State.reset

/-- R111: BOOT, its selector and its whole effect; the sequencer is enabled in S_BOOT, no operation
enters S_BOOT, and in a weakly fair run from it BOOT is taken exactly once. -/
def Obligations.BootStartsCapture : Prop :=
  encode .boot = 0b11111000#8 ∧
  (∀ s : State, s.seq = Seq.boot → agentInstr .seq s = some .boot ∧ exec .boot s =
    .next { s with edgeCnt := 0, wdtCnt := 0, idx := 0#6, gie := true, seq := Seq.idle }) ∧
  (∀ (i : Instr) (s t : State), exec i s = .next t → t.seq = Seq.boot → s.seq = Seq.boot ∧ i ≠ .boot) ∧
  (∀ (σ : Nat → Agent) (ρ : Nat → State), AgentRun σ ρ → SeqFair σ ρ → (ρ 0).seq = Seq.boot →
    ∃ n, σ n = .seq ∧ (∀ m, m ≤ n → (ρ m).seq = Seq.boot) ∧ (∀ m, n < m → (ρ m).seq ≠ Seq.boot))

/-! Edge timer, frame capture buffer and watchdog (`41_capture.md`). -/

/-- R65: TICK, its selector, one tick short of the watchdog's period, and the tick that overflows it, with
the overflow of R66 in the same step. -/
def Obligations.TickAdvancesCounters : Prop :=
  encode .tick = 0b00000000#8 ∧
  ∀ s : State,
    (s.wdtCnt ≠ s.cfg.wdtPeriod - 1 → exec .tick s = .next
      { s with
        edgeCnt := (s.edgeCnt + 1) % 2 ^ s.cfg.cntWidth
        settleCnt := if s.settleCnt > 0 then s.settleCnt - 1 else s.settleCnt
        wdtCnt := s.wdtCnt + 1 }) ∧
    (s.wdtCnt = s.cfg.wdtPeriod - 1 → s.idx.toNat ≤ 34 → exec .tick s = .next
      { s with
        edgeCnt := (s.edgeCnt + 1) % 2 ^ s.cfg.cntWidth
        settleCnt := if s.settleCnt > 0 then s.settleCnt - 1 else s.settleCnt
        wdtCnt := 0
        idx := if s.gie then 0#6 else s.idx
        events := if s.gie = true ∧ s.idx.toNat > 0
          then s.events ++ [.frameAbort s.idx.toNat] else s.events })

/-- R66: WDT_OVF, its selector, and its effect inside the tick at `WDT_PERIOD - 1`. -/
def Obligations.WatchdogOverflowAbandonsFrame : Prop :=
  encode .wdtOvf = 0b00000000#8 ∧
  ∀ s : State, s.wdtCnt = s.cfg.wdtPeriod - 1 → s.idx.toNat ≤ 34 →
    exec .wdtOvf s = .next
      { s with
        edgeCnt := (s.edgeCnt + 1) % 2 ^ s.cfg.cntWidth
        settleCnt := s.settleCnt - 1
        wdtCnt := 0
        idx := if s.gie then 0#6 else s.idx
        events := if s.gie = true ∧ s.idx.toNat > 0
          then s.events ++ [.frameAbort s.idx.toNat] else s.events }

/-- R62, R63, R64: IR_EDGE, its selector and the reaction to a rising edge of the signal, with the events
off, with room in the buffer, and with the buffer full under each policy. -/
def Obligations.EdgeCapturesOneSample : Prop :=
  encode .irEdge = 0b01000000#8 ∧
  ∀ s : State,
    (s.gie = false → exec .irEdge s = .next s) ∧
    (s.gie = true → s.idx.toNat < 34 → ∃ t, exec .irEdge s = .next t ∧
      readSlot t.buf s.idx.toNat = s.edgeCnt ∧
      (∀ k, k ≠ s.idx.toNat → readSlot t.buf k = readSlot s.buf k) ∧
      t.idx.toNat = s.idx.toNat + 1 ∧
      t = { s with buf := t.buf, idx := t.idx, edgeCnt := 0, wdtCnt := 0 }) ∧
    (s.gie = true → s.idx.toNat = 34 → s.cfg.fullPolicy = .drop → exec .irEdge s = .next
      { s with edgeCnt := 0, wdtCnt := 0, events := s.events ++ [.edgeLost s.edgeCnt] }) ∧
    (s.gie = true → s.idx.toNat = 34 → s.cfg.fullPolicy = .overwriteLast →
      ∃ t, exec .irEdge s = .next t ∧
        readSlot t.buf 33 = s.edgeCnt ∧
        (∀ k, k ≠ 33 → readSlot t.buf k = readSlot s.buf k) ∧
        t = { s with
              buf := t.buf, edgeCnt := 0, wdtCnt := 0
              events := s.events ++ [.edgeLost s.edgeCnt] })

/-- R70, R67: a run of g ticks without an edge overflows the watchdog every `WDT_PERIOD` ticks, and counts
g ticks modulo 2^W. -/
def Obligations.TickRunOverflowsEveryPeriod : Prop :=
  ∀ (s : State) (g : Nat), Inv s →
    ∃ is t, Path is s t ∧ is.map Instr.agent = List.replicate g .clk ∧
      is.count .wdtOvf = (s.wdtCnt + g) / s.cfg.wdtPeriod ∧
      t.wdtCnt = (s.wdtCnt + g) % s.cfg.wdtPeriod ∧
      t.edgeCnt = (s.edgeCnt + g) % 2 ^ s.cfg.cntWidth ∧
      t.settleCnt = s.settleCnt - g ∧
      t.idx = (if s.gie = true ∧ s.cfg.wdtPeriod ≤ s.wdtCnt + g then 0#6 else s.idx) ∧
      t = { s with
            wdtCnt := t.wdtCnt, edgeCnt := t.edgeCnt, settleCnt := t.settleCnt
            idx := t.idx, events := t.events }

/-- R72: 34 edges, each of the last 33 less than `WDT_PERIOD` ticks after the one before, complete a frame
whose slot k holds the gap before edge k + 1, modulo 2^W. -/
def Obligations.ShortGapsCaptureFrame : Prop :=
  ∀ (s : State) (gs : List Nat), Inv s → s.gie = true → s.idx = 0#6 → gs.length = 34 →
    (∀ g ∈ gs.tail, g < s.cfg.wdtPeriod) →
    ∃ is t, Path is s t ∧ is.map Instr.agent = gs.flatMap gapAgents ∧
      t.idx.toNat = 34 ∧
      readSlot t.buf 0 = (s.edgeCnt + gs.getD 0 0) % 2 ^ s.cfg.cntWidth ∧
      (∀ k, 1 ≤ k → k < 34 → readSlot t.buf k = gs.getD k 0 % 2 ^ s.cfg.cntWidth) ∧
      t = { s with
            buf := t.buf, idx := t.idx, edgeCnt := 0, wdtCnt := 0
            settleCnt := s.settleCnt - gs.sum }

/-- R72, R66: a gap that reaches `WDT_PERIOD` abandons the frame in progress, and its edge is the first of
a new one. -/
def Obligations.LongGapRestartsFrame : Prop :=
  ∀ (s : State) (g : Nat), Inv s → s.gie = true → s.cfg.wdtPeriod ≤ s.wdtCnt + g →
    ∃ is t, Path is s t ∧ is.map Instr.agent = gapAgents g ∧
      t.idx.toNat = 1 ∧ readSlot t.buf 0 = (s.edgeCnt + g) % 2 ^ s.cfg.cntWidth ∧
      t.events = s.events ++ if s.idx.toNat > 0 then [.frameAbort s.idx.toNat] else []

/-- R114: under `A_PERIOD` a transmission after idle time is captured whole, whatever partial frame went
before it. -/
def Obligations.IdleTimeClearsPartialFrame : Prop :=
  ∀ (s : State) (gs : List Nat) (gMax gIdle : Nat), Inv s → s.gie = true → gs.length = 34 →
    APeriod s.cfg gMax gIdle → gIdle ≤ gs.getD 0 0 → (∀ g ∈ gs.tail, g ≤ gMax) →
    ∃ is t, Path is s t ∧ is.map Instr.agent = gs.flatMap gapAgents ∧
      t.idx.toNat = 34 ∧
      (∀ k, 1 ≤ k → k < 34 → readSlot t.buf k = gs.getD k 0 % 2 ^ s.cfg.cntWidth) ∧
      t.events = s.events ++ if s.idx.toNat > 0 then [.frameAbort s.idx.toNat] else []

/-- R71: with `WDT_PERIOD = 2^CNT_WIDTH` the two counters agree: at reset and after every step that
starts from agreement; the watchdog then overflows exactly where the edge counter wraps. -/
def Obligations.CountersAgreeAtFullPeriod : Prop :=
  (∀ (c : Config) (buf : FrameBuffer) (cmd : Command) (p : Bool),
    (State.resetWith c buf cmd p).wdtCnt = (State.resetWith c buf cmd p).edgeCnt) ∧
  (∀ s t : State, s.cfg.wdtPeriod = 2 ^ s.cfg.cntWidth → s.wdtCnt = s.edgeCnt →
    s.edgeCnt < 2 ^ s.cfg.cntWidth → step s = .next t →
      t.cfg = s.cfg ∧ t.wdtCnt = t.edgeCnt ∧ t.edgeCnt < 2 ^ t.cfg.cntWidth) ∧
  (∀ s : State, s.cfg.wdtPeriod = 2 ^ s.cfg.cntWidth → s.wdtCnt = s.edgeCnt →
    s.edgeCnt < 2 ^ s.cfg.cntWidth →
      (s.wdtExpires = true ↔ (s.edgeCnt + 1) % 2 ^ s.cfg.cntWidth = 0))

/-- R72, R116: the whole path of a transmission, through the schedule, whose form is the model's
(assumption log 5): scheduled from an empty buffer, with every gap after the
first shorter than `WDT_PERIOD` and the threshold between the gaps of the two bits, the steps of `frame c`
leave a complete frame that decodes to `c`. -/
def Obligations.TransmissionDecodesToItsCommand : Prop :=
  ∀ (s : State) (c : Command) (g0 g1 z o : Nat) (r : List Entry), Inv s → s.gie = true → s.idx = 0#6 →
    g1 < s.cfg.wdtPeriod → z < s.cfg.wdtPeriod → o < s.cfg.wdtPeriod →
    z ≤ s.cfg.tOne → s.cfg.tOne < o → o < 2 ^ s.cfg.cntWidth →
    s.sched = traceFrame c g0 g1 z o ++ r →
    ∃ t, Host.Core.run Sys2Proof.core (traceFrame c g0 g1 z o).length s = .next t ∧
      t.idx.toNat = 34 ∧ decodeFrame t.cfg t.buf = c ∧
      t = { s with
            buf := t.buf, idx := t.idx, edgeCnt := 0, wdtCnt := 0
            settleCnt := s.settleCnt - (frameGaps c g0 g1 z o).sum
            sched := r }

/-! The decoder (`42_decode.md`). -/

/-- R116: a frame whose 0 bits were sent as the gap z and 1 bits as the gap o decodes to what was sent
exactly where the threshold separates the two, as far as both bits occur. -/
def Obligations.ThresholdSeparatesTheBits : Prop :=
  ∀ (cfg : Config) (b : FrameBuffer) (c : Command) (z o : Nat),
    (∀ j, j < 32 → readSlot b (33 - j) = if c.getLsbD j then o else z) →
    (decodeFrame cfg b = c ↔
      ((∃ j, j < 32 ∧ c.getLsbD j = false) → z ≤ cfg.tOne) ∧
      ((∃ j, j < 32 ∧ c.getLsbD j = true) → cfg.tOne < o))

/-- R73, R53, R74: DECODE of a complete frame, its selector: bit j of the command is 1 exactly where slot 33 - j is
above the threshold, and the rest of the step's writes. -/
def Obligations.DecodeTakesCompleteFrame : Prop :=
  encode .decode = 0b11000000#8 ∧
  ∀ s : State, s.seq = Seq.idle → s.idx.toNat = 34 →
    ∃ t, exec .decode s = .next t ∧
      (∀ j, j < 32 → t.cmd.getLsbD j = decide (readSlot s.buf (33 - j) > s.cfg.tOne)) ∧
      t = { s with
            cmd := t.cmd, idx := 0#6
            estopLatch := if s.cfg.estopRelease = .nextDecode then false else s.estopLatch
            events := s.events ++ [.frameDecoded t.cmd]
            seq := Seq.dispatch }

/-- R76 with the model's choice of a step for a hold, which the rule allows (assumption log 10): with fewer
than 34 samples the sequencer holds in S_IDLE, as a step that changes no state; the edge that completes the frame lifts the hold, and a watchdog overflow puts it back. -/
def Obligations.IdleSequencerHolds : Prop :=
  ∀ s : State, s.seq = Seq.idle →
    (s.idx.toNat < 34 → s.seqHolds = true ∧ agentInstr .seq s = some .decode ∧
      exec .decode s = .next s) ∧
    (s.idx.toNat = 33 → s.gie = true → ∃ t, exec .irEdge s = .next t ∧ t.seqHolds = false) ∧
    (s.idx.toNat = 34 → s.seqHolds = false) ∧
    (s.idx.toNat = 34 → s.gie = true → s.wdtCnt = s.cfg.wdtPeriod - 1 →
      ∃ t, exec .wdtOvf s = .next t ∧ t.seqHolds = true)

/-- R75: the closed form of the decoder's loop, from any initial value of the accumulator. -/
def Obligations.DecodeIsMostSignificantFirstSum : Prop :=
  ∀ (c : Config) (b : FrameBuffer),
    ((decodeFrame c b).toNat =
      ∑ k ∈ Finset.range 32, (if readSlot b (2 + k) > c.tOne then 1 else 0) * 2 ^ (31 - k)) ∧
    (∀ acc : Command, (List.range' 2 32).foldl (shiftIn c b) acc = decodeFrame c b)

/-- R77: a complete frame is left only by its DECODE or by the overflow that discards it, and the index
returns from 0 to 34 only through 34 edges. -/
def Obligations.CompleteFrameIsDecodedOnce : Prop :=
  (∀ (i : Instr) (s t : State), Inv s → s.idx.toNat = 34 → exec i s = .next t →
    t.idx.toNat = 34 ∨
    (i = .decode ∧ t.idx = 0#6 ∧ t.cmd = decodeFrame s.cfg s.buf ∧
      t.events = s.events ++ [.frameDecoded t.cmd]) ∨
    ((i = .tick ∨ i = .wdtOvf) ∧ s.wdtCnt = s.cfg.wdtPeriod - 1 ∧ t.idx = 0#6 ∧ t.cmd = s.cmd ∧
      t.events = s.events ++ [.frameAbort 34])) ∧
  (∀ (is : List Instr) (s t : State), Path is s t → s.idx = 0#6 → t.idx.toNat = 34 →
    34 ≤ is.count .irEdge)

/-! The dispatcher (`43_dispatch.md`). -/

/-- R78: DISPATCH and its selector, with some value drawn for the indicator parity. Of the counter of draws,
which is the model's own field (assumption log 4), nothing is said. -/
def Obligations.DispatchSelectsAction : Prop :=
  encode .dispatch = 0b11001000#8 ∧
  ∀ s : State, s.seq = Seq.dispatch → ∃ (p : Bool) (t : State), exec .dispatch s = .next t ∧
    t.ports.actOut = (lookup s.cfg s.cmd).code ∧
    t = { s with
          action := lookup s.cfg s.cmd, indParity := p, draws := t.draws
          events := s.events ++ [.dispatched (lookup s.cfg s.cmd)] ++
            (if s.cmd ∈ s.cfg.codes then [] else [.unknownCmd s.cmd])
          seq := Seq.act }

/-- R79: the lookup matches each of the seven codes exactly, and every other command, and no known one,
means STOP. -/
def Obligations.LookupIsExactMatch : Prop :=
  ∀ c : Config, c.wf = true →
    lookup c c.codeFwd = .fwd ∧ lookup c c.codeBwd = .bwd ∧ lookup c c.codeLeft = .left ∧
    lookup c c.codeRight = .right ∧ lookup c c.codeSpeedup = .speedup ∧
    lookup c c.codeSlowdown = .slowdown ∧ lookup c c.codeAcc = .accToggle ∧
    (∀ v : Command, lookup c v = .stop ↔ v ∉ c.codes)

/-! The actuator (`44_actuator.md`). -/

/-- R81: the entry shared by the four motion actions, and their selectors. -/
def Obligations.MotionEntryDeEnergizes : Prop :=
  ∀ (s : State) (a : Action), a = .fwd ∨ a = .bwd ∨ a = .left ∨ a = .right →
    encode a.instr = 0b11010#5 ++ a.code ∧
    (s.seq = Seq.act → s.action = a → exec a.instr s = .next
      { s with
        dirA := 0b00#2, dirB := 0b00#2, pwmA := 0#8, pwmB := 0#8
        settleCnt := s.cfg.tSettle, seq := Seq.settle })

/-- R86: ACT.STOP and its selector. -/
def Obligations.StopDeEnergizes : Prop :=
  encode .actStop = 0b11010000#8 ∧
  ∀ s : State, s.seq = Seq.act → s.action = .stop → exec .actStop s = .next
    { s with dirA := 0b00#2, dirB := 0b00#2, pwmA := 0#8, pwmB := 0#8, seq := Seq.idle }

/-- R87: ACT.SPEEDUP saturates at 100 and reaches the compare values unless the latch is set. -/
def Obligations.SpeedUpSaturates : Prop :=
  encode .actSpeedup = 0b11010101#8 ∧
  ∀ s : State, s.seq = Seq.act → s.action = .speedup → ∃ t, exec .actSpeedup s = .next t ∧
    t.speed.toNat = min (s.speed.toNat + 10) 100 ∧
    t = { s with
          speed := t.speed
          pwmA := if s.estopLatch then s.pwmA else t.speed
          pwmB := if s.estopLatch then s.pwmB else t.speed
          seq := Seq.idle }

/-- R88: ACT.SLOWDOWN saturates at 0, with no wrap, and reaches the compare values unless the latch is
set. -/
def Obligations.SlowDownSaturates : Prop :=
  encode .actSlowdown = 0b11010110#8 ∧
  ∀ s : State, s.seq = Seq.act → s.action = .slowdown → ∃ t, exec .actSlowdown s = .next t ∧
    (t.speed.toNat : Int) = max ((s.speed.toNat : Int) - 10) 0 ∧
    t = { s with
          speed := t.speed
          pwmA := if s.estopLatch then s.pwmA else t.speed
          pwmB := if s.estopLatch then s.pwmB else t.speed
          seq := Seq.idle }

/-- R89: ACT.ACC_TOGGLE flips the accessory flag and its port, whatever the latch is. -/
def Obligations.AccessoryToggles : Prop :=
  encode .actAccToggle = 0b11010111#8 ∧
  ∀ s : State, s.seq = Seq.act → s.action = .accToggle → ∃ t, exec .actAccToggle s = .next t ∧
    t.ports.accOut = !s.ports.accOut ∧ t = { s with acc := !s.acc, seq := Seq.idle }

/-- R90: SETTLE and its selector: the sequencer holds while the delay runs and not at its end; the end of
the delay with the latch set, and with the latch clear for each motion action. -/
def Obligations.SettleCompletesMotion : Prop :=
  encode .settle = 0b11011000#8 ∧
  ∀ s : State, s.seq = Seq.settle →
    (s.seqHolds = true ↔ 0 < s.settleCnt) ∧
    (s.settleCnt = 0 → s.estopLatch = true → exec .settle s = .next { s with seq := Seq.idle }) ∧
    (s.settleCnt = 0 → s.estopLatch = false → ∀ (a : Action) (p : Direction × Direction),
      (a, p) ∈ [(Action.fwd, s.cfg.dirPattern.fwd), (Action.bwd, s.cfg.dirPattern.bwd),
        (Action.left, s.cfg.dirPattern.left), (Action.right, s.cfg.dirPattern.right)] →
      s.action = a → exec .settle s = .next
        { s with dirA := p.1, dirB := p.2, pwmA := s.speed, pwmB := s.speed, seq := Seq.idle })

/-- R90 with the model's choice of a step for a hold (assumption log 10): while the delay runs the
sequencer's step in S_SETTLE changes nothing, and a tick takes one from the delay. -/
def Obligations.SettlingSequencerHolds : Prop :=
  ∀ s : State, s.seq = Seq.settle → 0 < s.settleCnt →
    agentInstr .seq s = some .settle ∧ exec .settle s = .next s ∧
    (s.wdtCnt ≠ s.cfg.wdtPeriod - 1 → ∃ t, exec .tick s = .next t ∧
      t.settleCnt + 1 = s.settleCnt ∧ (t.seqHolds = true ↔ 1 < s.settleCnt))

/-- R91: the speed is in its range at reset and along any run; k SPEEDUPs and no SLOWDOWN saturate at
100, and k SLOWDOWNs and no SPEEDUP at 0. -/
def Obligations.SpeedRunsSaturate : Prop :=
  (∀ (c : Config) (buf : FrameBuffer) (cmd : Command) (p : Bool), c.wf = true →
    (State.resetWith c buf cmd p).speed.toNat ≤ 100) ∧
  (∀ (is : List Instr) (s t : State), Path is s t → s.speed.toNat ≤ 100 →
    t.speed.toNat ≤ 100 ∧
    (.actSlowdown ∉ is → t.speed.toNat = min (s.speed.toNat + is.count .actSpeedup * 10) 100) ∧
    (.actSpeedup ∉ is → (t.speed.toNat : Int) =
      max ((s.speed.toNat : Int) - (is.count .actSlowdown : Int) * 10) 0))

/-- R92: no operation reverses a direction register; what makes one non-zero is SETTLE; and the outputs
are de-energized in S_SETTLE. -/
def Obligations.NoDirectReversal : Prop :=
  (∀ (i : Instr) (s t : State), Inv s → exec i s = .next t →
    ¬ (s.dirA = 0b10#2 ∧ t.dirA = 0b01#2) ∧ ¬ (s.dirA = 0b01#2 ∧ t.dirA = 0b10#2) ∧
    ¬ (s.dirB = 0b10#2 ∧ t.dirB = 0b01#2) ∧ ¬ (s.dirB = 0b01#2 ∧ t.dirB = 0b10#2)) ∧
  (∀ (i : Instr) (s t : State), exec i s = .next t →
    (t.dirA ≠ s.dirA ∧ t.dirA ≠ 0b00#2) ∨ (t.dirB ≠ s.dirB ∧ t.dirB ≠ 0b00#2) → i = .settle) ∧
  (∀ s : State, Inv s → s.seq = Seq.settle → s.deEnergized = true)

/-- R92, R90: while fewer ticks have passed than the delay, every run stays in S_SETTLE with the outputs
de-energized, and the counter says how many are left. -/
def Obligations.SettlingDelayIsKept : Prop :=
  ∀ (is : List Instr) (s t : State), Path is s t → s.seq = Seq.settle → s.deEnergized = true →
    ticksIn is < s.settleCnt →
    t.seq = Seq.settle ∧ t.settleCnt + ticksIn is = s.settleCnt ∧ t.deEnergized = true ∧
      t.action = s.action ∧ t.speed = s.speed

/-! The emergency stop (`45_estop.md`). -/

/-- R93: ESTOP_EDGE and its selector, in any state. -/
def Obligations.EstopDeEnergizes : Prop :=
  encode .estopEdge = 0b10000000#8 ∧
  ∀ s : State, exec .estopEdge s = .next
    { s with
      dirA := 0b00#2, dirB := 0b00#2, pwmA := 0#8, pwmB := 0#8
      estopLatch := true, events := s.events ++ [.estop] }

/-- R94: the latch is set only over de-energized outputs: at reset, and after every step from a state
where that holds. -/
def Obligations.LatchMeansDeEnergized : Prop :=
  (∀ (c : Config) (buf : FrameBuffer) (cmd : Command) (p : Bool),
    (State.resetWith c buf cmd p).estopLatch = true →
      (State.resetWith c buf cmd p).deEnergized = true) ∧
  (∀ s t : State, (s.estopLatch = true → s.deEnergized = true) → step s = .next t →
    t.estopLatch = true → t.deEnergized = true)

/-- R95: only DECODE under NEXT_DECODE clears the latch, and it does; under NEVER nothing clears it, along
any run. -/
def Obligations.LatchReleasedOnlyByDecode : Prop :=
  (∀ (i : Instr) (s t : State), exec i s = .next t → s.estopLatch = true → t.estopLatch = false →
    i = .decode ∧ s.cfg.estopRelease = .nextDecode ∧ s.idx.toNat = 34) ∧
  (∀ s : State, s.seq = Seq.idle → s.idx.toNat = 34 → s.cfg.estopRelease = .nextDecode →
    ∃ t, exec .decode s = .next t ∧ t.estopLatch = false) ∧
  (∀ (is : List Instr) (s t : State), Path is s t → s.cfg.estopRelease = .never →
    s.estopLatch = true → s.deEnergized = true → t.estopLatch = true ∧ t.deEnergized = true)

/-- R96: after an emergency stop the outputs are de-energized in every state before the next DECODE,
whatever point of a command the sequencer had reached. -/
def Obligations.EstopOverridesCommandInProgress : Prop :=
  ∀ (is : List Instr) (s u t : State), exec .estopEdge s = .next u → Path is u t → .decode ∉ is →
    t.deEnergized = true ∧ t.estopLatch = true

/-- R47: an ESTOP_EDGE commutes with a tick and with an edge of the signal, but for the order of the
events they emit. -/
def Obligations.EstopCommutesWithCapture : Prop :=
  ∀ (i : Instr) (s u v : State), i = .tick ∨ i = .wdtOvf ∨ i = .irEdge →
    exec .estopEdge s = .next u → exec i s = .next v →
    ∃ t w, exec i u = .next t ∧ exec .estopEdge v = .next w ∧ t.registers = w.registers

/-! Events, order and faults (`60_exceptions.md`, `10_state.md`). -/

/-- R103: the reactions leave the sequencer where it was: its state and action always, the settling
counter by all but the clock, whose tick counts it down. -/
def Obligations.ReactionsLeaveSequencer : Prop :=
  ∀ (i : Instr) (s t : State), i.agent ≠ .seq → exec i s = .next t →
    t.seq = s.seq ∧ t.action = s.action ∧ t.speed = s.speed ∧ t.acc = s.acc ∧ t.cmd = s.cmd ∧
      t.settleCnt = if i.agent = .clk then s.settleCnt - 1 else s.settleCnt

/-- R100: `GIE` is 0 from reset, is written by BOOT alone, to 1, and is never cleared; while it is 0 an
edge of the signal changes nothing and the clock leaves the index and the events alone; the emergency stop
acts whatever it is. -/
def Obligations.EnableGatesCapture : Prop :=
  (∀ (c : Config) (buf : FrameBuffer) (cmd : Command) (p : Bool),
    (State.resetWith c buf cmd p).gie = false) ∧
  (∀ (i : Instr) (s t : State), exec i s = .next t →
    t.gie = if i = .boot then true else s.gie) ∧
  (∀ s : State, s.gie = false → exec .irEdge s = .next s) ∧
  (∀ (i : Instr) (s t : State), s.gie = false → i = .tick ∨ i = .wdtOvf → exec i s = .next t →
    t.idx = s.idx ∧ t.events = s.events) ∧
  (∀ s : State, ∃ t, exec .estopEdge s = .next t ∧ t.deEnergized = true ∧ t.estopLatch = true)

/-- R18: each register is written only by the operations its row of the table names, and the
configuration (R6) by none. -/
def Obligations.RegistersHaveOnlyTheirWriters : Prop :=
  ∀ (i : Instr) (s t : State), exec i s = .next t →
    (t.edgeCnt ≠ s.edgeCnt → i ∈ [.tick, .wdtOvf, .irEdge, .boot]) ∧
    (t.wdtCnt ≠ s.wdtCnt → i ∈ [.tick, .wdtOvf, .irEdge, .boot]) ∧
    (t.idx ≠ s.idx → i ∈ [.irEdge, .tick, .wdtOvf, .decode, .boot]) ∧
    (t.buf ≠ s.buf → i = .irEdge) ∧
    (t.cmd ≠ s.cmd → i = .decode) ∧
    (t.action ≠ s.action → i = .dispatch) ∧
    (t.speed ≠ s.speed → i = .actSpeedup ∨ i = .actSlowdown) ∧
    (t.acc ≠ s.acc → i = .actAccToggle) ∧
    (t.indParity ≠ s.indParity → i = .dispatch) ∧
    (t.seq ≠ s.seq → i.agent = .seq) ∧
    (t.settleCnt ≠ s.settleCnt → i ∈ [.actFwd, .actBwd, .actLeft, .actRight, .tick, .wdtOvf]) ∧
    (t.estopLatch ≠ s.estopLatch → i = .estopEdge ∨ i = .decode) ∧
    (t.gie ≠ s.gie → i = .boot) ∧
    (t.dirA ≠ s.dirA ∨ t.dirB ≠ s.dirB →
      i ∈ [.actFwd, .actBwd, .actLeft, .actRight, .actStop, .settle, .estopEdge]) ∧
    (t.pwmA ≠ s.pwmA ∨ t.pwmB ≠ s.pwmB →
      i ∈ [.actFwd, .actBwd, .actLeft, .actRight, .actStop, .actSpeedup, .actSlowdown, .settle,
        .estopEdge]) ∧
    t.cfg = s.cfg

/-- R34: a compare value is written only with 0 or with the speed. -/
def Obligations.CompareValuesFollowSpeed : Prop :=
  ∀ (i : Instr) (s t : State), exec i s = .next t →
    (t.pwmA = s.pwmA ∧ t.pwmB = s.pwmB) ∨ (t.pwmA = 0#8 ∧ t.pwmB = 0#8) ∨
      (t.pwmA = t.speed ∧ t.pwmB = t.speed)

/-- R98: the events each operation emits, their arguments, and the class codes of the three errors. -/
def Obligations.EventsAreTheTables : Prop :=
  (∀ (i : Instr) (s t : State), exec i s = .next t → ∃ es, t.events = s.events ++ es ∧
    (∀ n, .frameAbort n ∈ es ↔ (i = .tick ∨ i = .wdtOvf) ∧ s.wdtCnt = s.cfg.wdtPeriod - 1 ∧
      s.gie = true ∧ s.idx.toNat = n ∧ 0 < n) ∧
    (∀ c, .unknownCmd c ∈ es ↔ i = .dispatch ∧ s.cmd = c ∧ c ∉ s.cfg.codes) ∧
    (.estop ∈ es ↔ i = .estopEdge) ∧
    (∀ v, .edgeLost v ∈ es ↔ i = .irEdge ∧ s.gie = true ∧ s.idx.toNat = 34 ∧ s.edgeCnt = v) ∧
    (∀ c, .frameDecoded c ∈ es ↔ i = .decode ∧ s.idx.toNat = 34 ∧ t.cmd = c) ∧
    (∀ a, .dispatched a ∈ es ↔ i = .dispatch ∧ t.action = a)) ∧
  (∀ n, (Event.frameAbort n).classCode = some 1) ∧ (∀ c, (Event.unknownCmd c).classCode = some 2) ∧
  Event.estop.classCode = some 3 ∧ (∀ v, (Event.edgeLost v).classCode = none) ∧
  (∀ c, (Event.frameDecoded c).classCode = none) ∧ (∀ a, (Event.dispatched a).classCode = none)

/-- R113: a run that keeps to `A_DRAIN` emits no EDGE_LOST: the lost edges in its trace are, in order and
number, those its first state had. -/
def Obligations.DrainedRunsLoseNoEdge : Prop :=
  ∀ (σ : Nat → Agent) (ρ : Nat → State), AgentRun σ ρ → ADrain σ ρ →
    ∀ n : Nat, (ρ n).events.filter Event.isEdgeLost = (ρ 0).events.filter Event.isEdgeLost

/-- R114, R119, R113: a run that keeps to `L_SEQ` with a bound that ends before the watchdog's period keeps
a complete frame until the sequencer takes it: the frame stays complete, and the buffer stays as it is
under DROP, and under either policy if the run keeps to `A_DRAIN`. -/
def Obligations.PromptSequencerKeepsFrame : Prop :=
  ∀ (σ : Nat → Agent) (ρ : Nat → State) (bound n : Nat), AgentRun σ ρ → LSeq bound σ ρ →
    (ρ n).seq = Seq.idle → (ρ n).idx.toNat = 34 → (ρ n).wdtCnt + bound < (ρ n).cfg.wdtPeriod →
    ∀ m, n ≤ m → (∀ k, n ≤ k → k < m → σ k ≠ .seq) →
      (ρ m).seq = Seq.idle ∧ (ρ m).idx.toNat = 34 ∧
      ((ρ n).cfg.fullPolicy = .drop → (ρ m).buf = (ρ n).buf) ∧
      (ADrain σ ρ → (ρ m).buf = (ρ n).buf)

/-- R97, R14: no step traps or halts: in every state that meets the invariants every agent has an
operation, and it answers a next state that meets them again. -/
def Obligations.EveryAgentCanStep : Prop :=
  ∀ (s : State) (a : Agent), Inv s →
    ∃ i t, agentInstr a s = some i ∧ exec i s = .next t ∧ Inv t

/-- R102: the steps of an instant, any number of edges, stops and steps of the sequencer with at most one
tick: one by one, under FIXED in the order signal edges, tick, sequencer, emergency stops,
under ANY with some member first. -/
def Obligations.InstantStepsInOrder : Prop :=
  ∀ (s : State) (j : Instant) (r : List Entry), s.cfg.wf = true → Seq.legal s.seq = true →
    s.sched = .instant j :: r → instantMembers j ≠ [] →
    ∃ (a : Agent) (i : Instr) (d : Nat), a ∈ instantMembers j ∧ agentInstr a s = some i ∧
      step s = exec i { s with sched := instantThen (instantWithout j a) r, draws := d } ∧
      (s.cfg.simulOrder = .fixed →
        a = if 0 < j.ir then .ir else if j.clk then .clk else if 0 < j.seq then .seq else .estop) ∧
      instantMembers (instantWithout j a) = (instantMembers j).erase a

/-- R68: an edge and a tick in one instant under FIXED: the sample is the count before the tick, which
then counts from 0, and a tick at `WDT_PERIOD - 1` does not overflow. For a period of at least 2: with a
period of 1 every tick overflows (R65). -/
def Obligations.EdgeIsTakenBeforeTick : Prop :=
  ∀ (s : State) (r : List Entry), s.cfg.wf = true → s.cfg.simulOrder = .fixed →
    2 ≤ s.cfg.wdtPeriod → s.gie = true → s.idx.toNat < 34 →
    s.sched = .instant (Instant.mk 1 true 0 0) :: r →
    ∃ m t, step s = .next m ∧ step m = .next t ∧ t.sched = r ∧
      readSlot t.buf s.idx.toNat = s.edgeCnt ∧ t.idx.toNat = s.idx.toNat + 1 ∧
      t.edgeCnt = 1 ∧ t.wdtCnt = 1 ∧ t.events = s.events

/-! Selectors and the sequencer (`30_encoding.md`). -/

/-- R59: selector bytes written out from the opcode table, and the operation each is read as. -/
def Obligations.TableWordsDecode : Prop :=
  decodeTableWord 8 0x00 = some .tick ∧ decodeTableWord 8 0x40 = some .irEdge ∧
  decodeTableWord 8 0x80 = some .estopEdge ∧ decodeTableWord 8 0xF8 = some .boot ∧
  decodeTableWord 8 0xC0 = some .decode ∧ decodeTableWord 8 0xC8 = some .dispatch ∧
  decodeTableWord 8 0xD0 = some .actStop ∧ decodeTableWord 8 0xD1 = some .actFwd ∧
  decodeTableWord 8 0xD7 = some .actAccToggle ∧ decodeTableWord 8 0xD8 = some .settle

/-- R59: decoding and encoding agree, both ways; WDT_OVF has TICK's selector, from which it is told by
state. -/
def Obligations.EncodeAndDecodeAgree : Prop :=
  (∀ i : Instr, i ≠ .wdtOvf → decodeWord (encode i) = .ok i) ∧
  (∀ (w : SelectorWord) (i : Instr), decodeWord w = .ok i → encode i = w) ∧
  (∀ s : State, resolve s .tick = if s.wdtCnt = s.cfg.wdtPeriod - 1 then .wdtOvf else .tick)

/-- R60: a trace entry that names no step is refused, each kind by its name. -/
def Obligations.SelectorsOfNoStepAreRefused : Prop :=
  ∀ (s : State) (w : SelectorWord) (r : List Entry), s.cfg.wf = true → s.sched = .word w :: r →
    let x := Selector.ofWord w
    (x.step ≠ 0b11#2 → x.sq ≠ 0#3 ∨ x.ac ≠ 0#3 → step s = .refused .selectorNonCanonical) ∧
    (x.step = 0b11#2 → x.sq = 0b100#3 ∨ x.sq = 0b101#3 ∨ x.sq = 0b110#3 →
      step s = .refused .selectorUnused)

/-- R59: the selector that labels an agent's step in a state decodes to the operation the agent performs
there, TICK and WDT_OVF being told apart by the state. -/
def Obligations.SelectorLabelsTheStep : Prop :=
  ∀ (s : State) (a : Agent), Seq.legal s.seq = true →
    ∃ i j, agentInstr a s = some i ∧ decodeWord (selectorOf a s).toWord = .ok j ∧ resolve s j = i ∧
      i.agent = a

/-- R59: a selector of the sequencer that names one of its states and does not agree with the state is not
a step of it and is refused: one that decodes, by its operation's meaning and by the step; one with
`AC` not `000` outside S_ACT, which agrees with no state, by the step. -/
def Obligations.DisagreeingSelectorIsRefused : Prop :=
  ∀ (s : State) (w : SelectorWord) (r : List Entry), s.cfg.wf = true → s.sched = .word w :: r →
    let x := Selector.ofWord w
    x.step = 0b11#2 → Seq.legal x.sq = true →
    (Seq.legal s.seq = true → x ≠ selectorOf .seq s →
      step s = .refused .selectorDisagrees ∧
      (∀ i, decodeWord w = .ok i → exec i s = .refused .selectorDisagrees)) ∧
    (x.sq ≠ 0b010#3 → x.ac ≠ 0#3 → step s = .refused .selectorDisagrees)

/-- R58, R60: a step of the sequencer that finds an unused code of `SEQ`, and a step that reads an index
above 34, fault. -/
def Obligations.UnreachableCodesFault : Prop :=
  (∀ (i : Instr) (s : State), i.agent = .seq → Seq.legal s.seq = false →
    exec i s = .fault .seqUnused ∧ agentInstr .seq s = none) ∧
  (∀ s : State, 34 < s.idx.toNat →
    (s.gie = true → exec .irEdge s = .fault .idxOutOfRange) ∧
    (s.gie = true → s.wdtCnt = s.cfg.wdtPeriod - 1 → exec .wdtOvf s = .fault .idxOutOfRange) ∧
    (s.seq = Seq.idle → exec .decode s = .fault .idxOutOfRange))

/-- R58, R80: the operation of the sequencer in each of its five states; in S_ACT the multiplexer selects
exactly one of the eight actions, and `ACTION` completes the selector. -/
def Obligations.SequencerPerformsItsState : Prop :=
  ∀ s : State,
    (s.seq = 0b111#3 → agentInstr .seq s = some .boot) ∧
    (s.seq = 0b000#3 → agentInstr .seq s = some .decode) ∧
    (s.seq = 0b001#3 → agentInstr .seq s = some .dispatch) ∧
    (s.seq = 0b010#3 → ∃ i, agentInstr .seq s = some i ∧
      (s.action.code, i) ∈ [(0b000#3, Instr.actStop), (0b001#3, Instr.actFwd),
        (0b010#3, Instr.actBwd), (0b011#3, Instr.actLeft), (0b100#3, Instr.actRight),
        (0b101#3, Instr.actSpeedup), (0b110#3, Instr.actSlowdown), (0b111#3, Instr.actAccToggle)] ∧
      (selectorOf .seq s).toWord = 0b11010#5 ++ s.action.code ∧ encode i = 0b11010#5 ++ s.action.code) ∧
    (s.seq = 0b011#3 → agentInstr .seq s = some .settle)

/-- R58: the sequencer moves only along the edges of its graph, each taken by its own operation. -/
def Obligations.SequencerMovesAlongGraph : Prop :=
  ∀ (i : Instr) (s t : State), exec i s = .next t →
    t.seq = s.seq ∨ seqEdge i s.action s.seq t.seq = true

/-- R7: the configurations with a machine are those that meet the rule's clauses; in any other no step is
taken. -/
def Obligations.IllFormedConfigurationIsRefused : Prop :=
  (∀ c : Config, c.wf = true ↔
    1 ≤ c.cntWidth ∧ c.tOne < 2 ^ c.cntWidth ∧ 1 ≤ c.wdtPeriod ∧ c.speedReset ≤ 100 ∧
      c.codes.Nodup ∧
      (∀ p ∈ [c.dirPattern.fwd, c.dirPattern.bwd, c.dirPattern.left, c.dirPattern.right],
        p.1 ≠ 0b11#2 ∧ p.2 ≠ 0b11#2)) ∧
  (∀ s : State, s.cfg.wf = false → step s = .refused .configIllFormed)

/-! The machine. -/

/-- A step runs the scheduled operation, with the schedule moved on: a selector byte, an agent's line, a
`run`, and, with nothing scheduled, whichever agent the environment lets step (R11, R12, R61). -/
def Obligations.StepRunsScheduledOperation : Prop :=
  ∀ (s : State) (r : List Entry), s.cfg.wf = true →
    (∀ w i, s.sched = .word w :: r → decodeWord w = .ok i →
      step s = exec (resolve s i) { s with sched := r }) ∧
    (∀ a i, s.sched = .agent a :: r → agentInstr a s = some i →
      step s = exec i { s with sched := r }) ∧
    (∀ i, s.sched = .run :: r → s.seqHolds = false → agentInstr .seq s = some i → step s = exec i s) ∧
    (s.sched = .run :: r → s.seqHolds = true → step s = step { s with sched := r }) ∧
    (∀ j, s.sched = .instant j :: r → instantMembers j = [] → step s = step { s with sched := r }) ∧
    (s.sched = [] → ∃ a, ∀ i, agentInstr a s = some i →
      step s = exec i { s with draws := s.draws + 1 })

/-- R61: `run` is `seq` until the sequencer holds: where n lines `seq` end at the first hold, `run` takes
the same n steps and leaves the same state, but for what is left of the schedule (whose form is the
model's, assumption log 5). -/
def Obligations.RunIsSeqUntilHold : Prop :=
  ∀ (s t : State) (n : Nat) (r : List Entry), s.cfg.wf = true →
    (∀ k, k < n → ∃ u, Host.Core.run Sys2Proof.core k { s with sched := traceSeq n ++ r } = .next u ∧
      State.seqHolds u = false) →
    Host.Core.run Sys2Proof.core n { s with sched := traceSeq n ++ r } = .next t →
    State.seqHolds t = true →
    t.sched = r ∧
    Host.Core.run Sys2Proof.core n { s with sched := traceRun ++ r } =
      .next { t with sched := traceRun ++ r } ∧
    step { t with sched := traceRun ++ r } = step t

/-- R120: every step from a state that meets the invariants leaves a state that meets them. -/
def Obligations.StepKeepsInvariants : Prop :=
  ∀ s t : State, Inv s → step s = .next t → Inv t

/-- R58, R73, R78, R80: a complete frame is carried out by three steps of the sequencer: decoded,
dispatched and acted on. -/
def Obligations.CompleteFrameIsCarriedOut : Prop :=
  ∀ s : State, Inv s → s.seq = Seq.idle → s.idx.toNat = 34 →
    let a := lookup s.cfg (decodeFrame s.cfg s.buf)
    ∃ t, Path [.decode, .dispatch, a.instr] s t ∧ t.action = a ∧ t.idx = 0#6 ∧
      t.cmd = decodeFrame s.cfg s.buf ∧
      t.seq = (if a.isMotion then Seq.settle else Seq.idle)

/-- R13: in every infinite run in which time passes and the sequencer is weakly fair, the sequencer keeps
returning to S_IDLE. -/
def Obligations.FairRunsReturnToIdle : Prop :=
  ∀ (σ : Nat → Agent) (ρ : Nat → State), Inv (ρ 0) → AgentRun σ ρ → ClkFair σ → SeqFair σ ρ →
    ∀ n, ∃ m, n ≤ m ∧ (ρ m).seq = Seq.idle
end

