-- ==== Sys2Proof/Laws/Config.lean ====
section
/-! SUPPORT. What a well-formed configuration gives (R7), one lemma per clause that proofs use. -/

namespace Sys2Proof

variable {c : Config}

theorem Config.wf_clauses (h : c.wf = true) :
    c.widthOk = true ∧ c.thresholdOk = true ∧ c.periodOk = true ∧ c.speedOk = true ∧ c.codesOk = true ∧
      c.patternOk = true := by
  simp only [Config.wf, Bool.and_eq_true] at h
  tauto

theorem Config.wf_width (h : c.wf = true) : 1 ≤ c.cntWidth :=
  of_decide_eq_true (Config.wf_clauses h).1

theorem Config.wf_threshold (h : c.wf = true) : c.tOne < 2 ^ c.cntWidth :=
  of_decide_eq_true (Config.wf_clauses h).2.1

theorem Config.wf_period (h : c.wf = true) : 1 ≤ c.wdtPeriod :=
  of_decide_eq_true (Config.wf_clauses h).2.2.1

theorem Config.wf_speed (h : c.wf = true) : c.speedReset ≤ 100 :=
  (of_decide_eq_true (Config.wf_clauses h).2.2.2.1).2.1

theorem Config.wf_codes (h : c.wf = true) : c.codes.Nodup :=
  of_decide_eq_true (Config.wf_clauses h).2.2.2.2.1

theorem Config.wf_pattern (h : c.wf = true) :
    ∀ p ∈ [c.dirPattern.fwd, c.dirPattern.bwd, c.dirPattern.left, c.dirPattern.right],
      p.1 ≠ Direction.reserved ∧ p.2 ≠ Direction.reserved := by
  have hp := (Config.wf_clauses h).2.2.2.2.2
  simp only [Config.patternOk, Direction.pairOk, Bool.and_eq_true, bne_iff_ne] at hp
  simp only [List.mem_cons, List.not_mem_nil, or_false]
  rintro p (rfl | rfl | rfl | rfl) <;> tauto

end Sys2Proof
end

