-- ==== Sys2Proof/Laws/State.lean ====
section
/-! SUPPORT. What each named update of the state leaves in each field: true by unfolding the update once,
so that no later proof unfolds it. -/

namespace Sys2Proof.Machine

section Emit
variable (s : State) (e : Event)

@[simp] theorem State.emit_edgeCnt : (s.emit e).edgeCnt = s.edgeCnt := rfl
@[simp] theorem State.emit_wdtCnt : (s.emit e).wdtCnt = s.wdtCnt := rfl
@[simp] theorem State.emit_idx : (s.emit e).idx = s.idx := rfl
@[simp] theorem State.emit_buf : (s.emit e).buf = s.buf := rfl
@[simp] theorem State.emit_cmd : (s.emit e).cmd = s.cmd := rfl
@[simp] theorem State.emit_action : (s.emit e).action = s.action := rfl
@[simp] theorem State.emit_speed : (s.emit e).speed = s.speed := rfl
@[simp] theorem State.emit_acc : (s.emit e).acc = s.acc := rfl
@[simp] theorem State.emit_indParity : (s.emit e).indParity = s.indParity := rfl
@[simp] theorem State.emit_seq : (s.emit e).seq = s.seq := rfl
@[simp] theorem State.emit_settleCnt : (s.emit e).settleCnt = s.settleCnt := rfl
@[simp] theorem State.emit_estopLatch : (s.emit e).estopLatch = s.estopLatch := rfl
@[simp] theorem State.emit_gie : (s.emit e).gie = s.gie := rfl
@[simp] theorem State.emit_dirA : (s.emit e).dirA = s.dirA := rfl
@[simp] theorem State.emit_dirB : (s.emit e).dirB = s.dirB := rfl
@[simp] theorem State.emit_pwmA : (s.emit e).pwmA = s.pwmA := rfl
@[simp] theorem State.emit_pwmB : (s.emit e).pwmB = s.pwmB := rfl
@[simp] theorem State.emit_cfg : (s.emit e).cfg = s.cfg := rfl
@[simp] theorem State.emit_sched : (s.emit e).sched = s.sched := rfl
@[simp] theorem State.emit_events : (s.emit e).events = s.events ++ [e] := rfl
@[simp] theorem State.emit_draws : (s.emit e).draws = s.draws := rfl

end Emit

section DeEnergize
variable (s : State)

@[simp] theorem State.deEnergize_edgeCnt : s.deEnergize.edgeCnt = s.edgeCnt := rfl
@[simp] theorem State.deEnergize_wdtCnt : s.deEnergize.wdtCnt = s.wdtCnt := rfl
@[simp] theorem State.deEnergize_idx : s.deEnergize.idx = s.idx := rfl
@[simp] theorem State.deEnergize_buf : s.deEnergize.buf = s.buf := rfl
@[simp] theorem State.deEnergize_cmd : s.deEnergize.cmd = s.cmd := rfl
@[simp] theorem State.deEnergize_action : s.deEnergize.action = s.action := rfl
@[simp] theorem State.deEnergize_speed : s.deEnergize.speed = s.speed := rfl
@[simp] theorem State.deEnergize_acc : s.deEnergize.acc = s.acc := rfl
@[simp] theorem State.deEnergize_indParity : s.deEnergize.indParity = s.indParity := rfl
@[simp] theorem State.deEnergize_seq : s.deEnergize.seq = s.seq := rfl
@[simp] theorem State.deEnergize_settleCnt : s.deEnergize.settleCnt = s.settleCnt := rfl
@[simp] theorem State.deEnergize_estopLatch : s.deEnergize.estopLatch = s.estopLatch := rfl
@[simp] theorem State.deEnergize_gie : s.deEnergize.gie = s.gie := rfl
@[simp] theorem State.deEnergize_dirA : s.deEnergize.dirA = Direction.off := rfl
@[simp] theorem State.deEnergize_dirB : s.deEnergize.dirB = Direction.off := rfl
@[simp] theorem State.deEnergize_pwmA : s.deEnergize.pwmA = 0#8 := rfl
@[simp] theorem State.deEnergize_pwmB : s.deEnergize.pwmB = 0#8 := rfl
@[simp] theorem State.deEnergize_cfg : s.deEnergize.cfg = s.cfg := rfl
@[simp] theorem State.deEnergize_sched : s.deEnergize.sched = s.sched := rfl
@[simp] theorem State.deEnergize_events : s.deEnergize.events = s.events := rfl
@[simp] theorem State.deEnergize_draws : s.deEnergize.draws = s.draws := rfl

end DeEnergize

section SetPwm
variable (s : State) (v : Level)

@[simp] theorem State.setPwm_edgeCnt : (s.setPwm v).edgeCnt = s.edgeCnt := rfl
@[simp] theorem State.setPwm_wdtCnt : (s.setPwm v).wdtCnt = s.wdtCnt := rfl
@[simp] theorem State.setPwm_idx : (s.setPwm v).idx = s.idx := rfl
@[simp] theorem State.setPwm_buf : (s.setPwm v).buf = s.buf := rfl
@[simp] theorem State.setPwm_cmd : (s.setPwm v).cmd = s.cmd := rfl
@[simp] theorem State.setPwm_action : (s.setPwm v).action = s.action := rfl
@[simp] theorem State.setPwm_speed : (s.setPwm v).speed = s.speed := rfl
@[simp] theorem State.setPwm_acc : (s.setPwm v).acc = s.acc := rfl
@[simp] theorem State.setPwm_indParity : (s.setPwm v).indParity = s.indParity := rfl
@[simp] theorem State.setPwm_seq : (s.setPwm v).seq = s.seq := rfl
@[simp] theorem State.setPwm_settleCnt : (s.setPwm v).settleCnt = s.settleCnt := rfl
@[simp] theorem State.setPwm_estopLatch : (s.setPwm v).estopLatch = s.estopLatch := rfl
@[simp] theorem State.setPwm_gie : (s.setPwm v).gie = s.gie := rfl
@[simp] theorem State.setPwm_dirA : (s.setPwm v).dirA = s.dirA := rfl
@[simp] theorem State.setPwm_dirB : (s.setPwm v).dirB = s.dirB := rfl
@[simp] theorem State.setPwm_pwmA : (s.setPwm v).pwmA = v := rfl
@[simp] theorem State.setPwm_pwmB : (s.setPwm v).pwmB = v := rfl
@[simp] theorem State.setPwm_cfg : (s.setPwm v).cfg = s.cfg := rfl
@[simp] theorem State.setPwm_sched : (s.setPwm v).sched = s.sched := rfl
@[simp] theorem State.setPwm_events : (s.setPwm v).events = s.events := rfl
@[simp] theorem State.setPwm_draws : (s.setPwm v).draws = s.draws := rfl

end SetPwm

section SetDir
variable (s : State) (p : Direction × Direction)

@[simp] theorem State.setDir_edgeCnt : (s.setDir p).edgeCnt = s.edgeCnt := rfl
@[simp] theorem State.setDir_wdtCnt : (s.setDir p).wdtCnt = s.wdtCnt := rfl
@[simp] theorem State.setDir_idx : (s.setDir p).idx = s.idx := rfl
@[simp] theorem State.setDir_buf : (s.setDir p).buf = s.buf := rfl
@[simp] theorem State.setDir_cmd : (s.setDir p).cmd = s.cmd := rfl
@[simp] theorem State.setDir_action : (s.setDir p).action = s.action := rfl
@[simp] theorem State.setDir_speed : (s.setDir p).speed = s.speed := rfl
@[simp] theorem State.setDir_acc : (s.setDir p).acc = s.acc := rfl
@[simp] theorem State.setDir_indParity : (s.setDir p).indParity = s.indParity := rfl
@[simp] theorem State.setDir_seq : (s.setDir p).seq = s.seq := rfl
@[simp] theorem State.setDir_settleCnt : (s.setDir p).settleCnt = s.settleCnt := rfl
@[simp] theorem State.setDir_estopLatch : (s.setDir p).estopLatch = s.estopLatch := rfl
@[simp] theorem State.setDir_gie : (s.setDir p).gie = s.gie := rfl
@[simp] theorem State.setDir_dirA : (s.setDir p).dirA = p.1 := rfl
@[simp] theorem State.setDir_dirB : (s.setDir p).dirB = p.2 := rfl
@[simp] theorem State.setDir_pwmA : (s.setDir p).pwmA = s.pwmA := rfl
@[simp] theorem State.setDir_pwmB : (s.setDir p).pwmB = s.pwmB := rfl
@[simp] theorem State.setDir_cfg : (s.setDir p).cfg = s.cfg := rfl
@[simp] theorem State.setDir_sched : (s.setDir p).sched = s.sched := rfl
@[simp] theorem State.setDir_events : (s.setDir p).events = s.events := rfl
@[simp] theorem State.setDir_draws : (s.setDir p).draws = s.draws := rfl

end SetDir

section Goto
variable (s : State) (q : Code3)

@[simp] theorem State.goto_edgeCnt : (s.goto q).edgeCnt = s.edgeCnt := rfl
@[simp] theorem State.goto_wdtCnt : (s.goto q).wdtCnt = s.wdtCnt := rfl
@[simp] theorem State.goto_idx : (s.goto q).idx = s.idx := rfl
@[simp] theorem State.goto_buf : (s.goto q).buf = s.buf := rfl
@[simp] theorem State.goto_cmd : (s.goto q).cmd = s.cmd := rfl
@[simp] theorem State.goto_action : (s.goto q).action = s.action := rfl
@[simp] theorem State.goto_speed : (s.goto q).speed = s.speed := rfl
@[simp] theorem State.goto_acc : (s.goto q).acc = s.acc := rfl
@[simp] theorem State.goto_indParity : (s.goto q).indParity = s.indParity := rfl
@[simp] theorem State.goto_seq : (s.goto q).seq = q := rfl
@[simp] theorem State.goto_settleCnt : (s.goto q).settleCnt = s.settleCnt := rfl
@[simp] theorem State.goto_estopLatch : (s.goto q).estopLatch = s.estopLatch := rfl
@[simp] theorem State.goto_gie : (s.goto q).gie = s.gie := rfl
@[simp] theorem State.goto_dirA : (s.goto q).dirA = s.dirA := rfl
@[simp] theorem State.goto_dirB : (s.goto q).dirB = s.dirB := rfl
@[simp] theorem State.goto_pwmA : (s.goto q).pwmA = s.pwmA := rfl
@[simp] theorem State.goto_pwmB : (s.goto q).pwmB = s.pwmB := rfl
@[simp] theorem State.goto_cfg : (s.goto q).cfg = s.cfg := rfl
@[simp] theorem State.goto_sched : (s.goto q).sched = s.sched := rfl
@[simp] theorem State.goto_events : (s.goto q).events = s.events := rfl
@[simp] theorem State.goto_draws : (s.goto q).draws = s.draws := rfl

end Goto

section SetWdt
variable (s : State) (n : Nat)

@[simp] theorem State.setWdt_edgeCnt : (s.setWdt n).edgeCnt = s.edgeCnt := rfl
@[simp] theorem State.setWdt_wdtCnt : (s.setWdt n).wdtCnt = n := rfl
@[simp] theorem State.setWdt_idx : (s.setWdt n).idx = s.idx := rfl
@[simp] theorem State.setWdt_buf : (s.setWdt n).buf = s.buf := rfl
@[simp] theorem State.setWdt_cmd : (s.setWdt n).cmd = s.cmd := rfl
@[simp] theorem State.setWdt_action : (s.setWdt n).action = s.action := rfl
@[simp] theorem State.setWdt_speed : (s.setWdt n).speed = s.speed := rfl
@[simp] theorem State.setWdt_acc : (s.setWdt n).acc = s.acc := rfl
@[simp] theorem State.setWdt_indParity : (s.setWdt n).indParity = s.indParity := rfl
@[simp] theorem State.setWdt_seq : (s.setWdt n).seq = s.seq := rfl
@[simp] theorem State.setWdt_settleCnt : (s.setWdt n).settleCnt = s.settleCnt := rfl
@[simp] theorem State.setWdt_estopLatch : (s.setWdt n).estopLatch = s.estopLatch := rfl
@[simp] theorem State.setWdt_gie : (s.setWdt n).gie = s.gie := rfl
@[simp] theorem State.setWdt_dirA : (s.setWdt n).dirA = s.dirA := rfl
@[simp] theorem State.setWdt_dirB : (s.setWdt n).dirB = s.dirB := rfl
@[simp] theorem State.setWdt_pwmA : (s.setWdt n).pwmA = s.pwmA := rfl
@[simp] theorem State.setWdt_pwmB : (s.setWdt n).pwmB = s.pwmB := rfl
@[simp] theorem State.setWdt_cfg : (s.setWdt n).cfg = s.cfg := rfl
@[simp] theorem State.setWdt_sched : (s.setWdt n).sched = s.sched := rfl
@[simp] theorem State.setWdt_events : (s.setWdt n).events = s.events := rfl
@[simp] theorem State.setWdt_draws : (s.setWdt n).draws = s.draws := rfl

end SetWdt

section SetIdx
variable (s : State) (v : FrameIndex)

@[simp] theorem State.setIdx_edgeCnt : (s.setIdx v).edgeCnt = s.edgeCnt := rfl
@[simp] theorem State.setIdx_wdtCnt : (s.setIdx v).wdtCnt = s.wdtCnt := rfl
@[simp] theorem State.setIdx_idx : (s.setIdx v).idx = v := rfl
@[simp] theorem State.setIdx_buf : (s.setIdx v).buf = s.buf := rfl
@[simp] theorem State.setIdx_cmd : (s.setIdx v).cmd = s.cmd := rfl
@[simp] theorem State.setIdx_action : (s.setIdx v).action = s.action := rfl
@[simp] theorem State.setIdx_speed : (s.setIdx v).speed = s.speed := rfl
@[simp] theorem State.setIdx_acc : (s.setIdx v).acc = s.acc := rfl
@[simp] theorem State.setIdx_indParity : (s.setIdx v).indParity = s.indParity := rfl
@[simp] theorem State.setIdx_seq : (s.setIdx v).seq = s.seq := rfl
@[simp] theorem State.setIdx_settleCnt : (s.setIdx v).settleCnt = s.settleCnt := rfl
@[simp] theorem State.setIdx_estopLatch : (s.setIdx v).estopLatch = s.estopLatch := rfl
@[simp] theorem State.setIdx_gie : (s.setIdx v).gie = s.gie := rfl
@[simp] theorem State.setIdx_dirA : (s.setIdx v).dirA = s.dirA := rfl
@[simp] theorem State.setIdx_dirB : (s.setIdx v).dirB = s.dirB := rfl
@[simp] theorem State.setIdx_pwmA : (s.setIdx v).pwmA = s.pwmA := rfl
@[simp] theorem State.setIdx_pwmB : (s.setIdx v).pwmB = s.pwmB := rfl
@[simp] theorem State.setIdx_cfg : (s.setIdx v).cfg = s.cfg := rfl
@[simp] theorem State.setIdx_sched : (s.setIdx v).sched = s.sched := rfl
@[simp] theorem State.setIdx_events : (s.setIdx v).events = s.events := rfl
@[simp] theorem State.setIdx_draws : (s.setIdx v).draws = s.draws := rfl

end SetIdx

section SetBuf
variable (s : State) (b : FrameBuffer)

@[simp] theorem State.setBuf_edgeCnt : (s.setBuf b).edgeCnt = s.edgeCnt := rfl
@[simp] theorem State.setBuf_wdtCnt : (s.setBuf b).wdtCnt = s.wdtCnt := rfl
@[simp] theorem State.setBuf_idx : (s.setBuf b).idx = s.idx := rfl
@[simp] theorem State.setBuf_buf : (s.setBuf b).buf = b := rfl
@[simp] theorem State.setBuf_cmd : (s.setBuf b).cmd = s.cmd := rfl
@[simp] theorem State.setBuf_action : (s.setBuf b).action = s.action := rfl
@[simp] theorem State.setBuf_speed : (s.setBuf b).speed = s.speed := rfl
@[simp] theorem State.setBuf_acc : (s.setBuf b).acc = s.acc := rfl
@[simp] theorem State.setBuf_indParity : (s.setBuf b).indParity = s.indParity := rfl
@[simp] theorem State.setBuf_seq : (s.setBuf b).seq = s.seq := rfl
@[simp] theorem State.setBuf_settleCnt : (s.setBuf b).settleCnt = s.settleCnt := rfl
@[simp] theorem State.setBuf_estopLatch : (s.setBuf b).estopLatch = s.estopLatch := rfl
@[simp] theorem State.setBuf_gie : (s.setBuf b).gie = s.gie := rfl
@[simp] theorem State.setBuf_dirA : (s.setBuf b).dirA = s.dirA := rfl
@[simp] theorem State.setBuf_dirB : (s.setBuf b).dirB = s.dirB := rfl
@[simp] theorem State.setBuf_pwmA : (s.setBuf b).pwmA = s.pwmA := rfl
@[simp] theorem State.setBuf_pwmB : (s.setBuf b).pwmB = s.pwmB := rfl
@[simp] theorem State.setBuf_cfg : (s.setBuf b).cfg = s.cfg := rfl
@[simp] theorem State.setBuf_sched : (s.setBuf b).sched = s.sched := rfl
@[simp] theorem State.setBuf_events : (s.setBuf b).events = s.events := rfl
@[simp] theorem State.setBuf_draws : (s.setBuf b).draws = s.draws := rfl

end SetBuf

section SetCmd
variable (s : State) (v : Command)

@[simp] theorem State.setCmd_edgeCnt : (s.setCmd v).edgeCnt = s.edgeCnt := rfl
@[simp] theorem State.setCmd_wdtCnt : (s.setCmd v).wdtCnt = s.wdtCnt := rfl
@[simp] theorem State.setCmd_idx : (s.setCmd v).idx = s.idx := rfl
@[simp] theorem State.setCmd_buf : (s.setCmd v).buf = s.buf := rfl
@[simp] theorem State.setCmd_cmd : (s.setCmd v).cmd = v := rfl
@[simp] theorem State.setCmd_action : (s.setCmd v).action = s.action := rfl
@[simp] theorem State.setCmd_speed : (s.setCmd v).speed = s.speed := rfl
@[simp] theorem State.setCmd_acc : (s.setCmd v).acc = s.acc := rfl
@[simp] theorem State.setCmd_indParity : (s.setCmd v).indParity = s.indParity := rfl
@[simp] theorem State.setCmd_seq : (s.setCmd v).seq = s.seq := rfl
@[simp] theorem State.setCmd_settleCnt : (s.setCmd v).settleCnt = s.settleCnt := rfl
@[simp] theorem State.setCmd_estopLatch : (s.setCmd v).estopLatch = s.estopLatch := rfl
@[simp] theorem State.setCmd_gie : (s.setCmd v).gie = s.gie := rfl
@[simp] theorem State.setCmd_dirA : (s.setCmd v).dirA = s.dirA := rfl
@[simp] theorem State.setCmd_dirB : (s.setCmd v).dirB = s.dirB := rfl
@[simp] theorem State.setCmd_pwmA : (s.setCmd v).pwmA = s.pwmA := rfl
@[simp] theorem State.setCmd_pwmB : (s.setCmd v).pwmB = s.pwmB := rfl
@[simp] theorem State.setCmd_cfg : (s.setCmd v).cfg = s.cfg := rfl
@[simp] theorem State.setCmd_sched : (s.setCmd v).sched = s.sched := rfl
@[simp] theorem State.setCmd_events : (s.setCmd v).events = s.events := rfl
@[simp] theorem State.setCmd_draws : (s.setCmd v).draws = s.draws := rfl

end SetCmd

section SetAction
variable (s : State) (a : Action)

@[simp] theorem State.setAction_edgeCnt : (s.setAction a).edgeCnt = s.edgeCnt := rfl
@[simp] theorem State.setAction_wdtCnt : (s.setAction a).wdtCnt = s.wdtCnt := rfl
@[simp] theorem State.setAction_idx : (s.setAction a).idx = s.idx := rfl
@[simp] theorem State.setAction_buf : (s.setAction a).buf = s.buf := rfl
@[simp] theorem State.setAction_cmd : (s.setAction a).cmd = s.cmd := rfl
@[simp] theorem State.setAction_action : (s.setAction a).action = a := rfl
@[simp] theorem State.setAction_speed : (s.setAction a).speed = s.speed := rfl
@[simp] theorem State.setAction_acc : (s.setAction a).acc = s.acc := rfl
@[simp] theorem State.setAction_indParity : (s.setAction a).indParity = s.indParity := rfl
@[simp] theorem State.setAction_seq : (s.setAction a).seq = s.seq := rfl
@[simp] theorem State.setAction_settleCnt : (s.setAction a).settleCnt = s.settleCnt := rfl
@[simp] theorem State.setAction_estopLatch : (s.setAction a).estopLatch = s.estopLatch := rfl
@[simp] theorem State.setAction_gie : (s.setAction a).gie = s.gie := rfl
@[simp] theorem State.setAction_dirA : (s.setAction a).dirA = s.dirA := rfl
@[simp] theorem State.setAction_dirB : (s.setAction a).dirB = s.dirB := rfl
@[simp] theorem State.setAction_pwmA : (s.setAction a).pwmA = s.pwmA := rfl
@[simp] theorem State.setAction_pwmB : (s.setAction a).pwmB = s.pwmB := rfl
@[simp] theorem State.setAction_cfg : (s.setAction a).cfg = s.cfg := rfl
@[simp] theorem State.setAction_sched : (s.setAction a).sched = s.sched := rfl
@[simp] theorem State.setAction_events : (s.setAction a).events = s.events := rfl
@[simp] theorem State.setAction_draws : (s.setAction a).draws = s.draws := rfl

end SetAction

section SetSpeed
variable (s : State) (v : Level)

@[simp] theorem State.setSpeed_edgeCnt : (s.setSpeed v).edgeCnt = s.edgeCnt := rfl
@[simp] theorem State.setSpeed_wdtCnt : (s.setSpeed v).wdtCnt = s.wdtCnt := rfl
@[simp] theorem State.setSpeed_idx : (s.setSpeed v).idx = s.idx := rfl
@[simp] theorem State.setSpeed_buf : (s.setSpeed v).buf = s.buf := rfl
@[simp] theorem State.setSpeed_cmd : (s.setSpeed v).cmd = s.cmd := rfl
@[simp] theorem State.setSpeed_action : (s.setSpeed v).action = s.action := rfl
@[simp] theorem State.setSpeed_speed : (s.setSpeed v).speed = v := rfl
@[simp] theorem State.setSpeed_acc : (s.setSpeed v).acc = s.acc := rfl
@[simp] theorem State.setSpeed_indParity : (s.setSpeed v).indParity = s.indParity := rfl
@[simp] theorem State.setSpeed_seq : (s.setSpeed v).seq = s.seq := rfl
@[simp] theorem State.setSpeed_settleCnt : (s.setSpeed v).settleCnt = s.settleCnt := rfl
@[simp] theorem State.setSpeed_estopLatch : (s.setSpeed v).estopLatch = s.estopLatch := rfl
@[simp] theorem State.setSpeed_gie : (s.setSpeed v).gie = s.gie := rfl
@[simp] theorem State.setSpeed_dirA : (s.setSpeed v).dirA = s.dirA := rfl
@[simp] theorem State.setSpeed_dirB : (s.setSpeed v).dirB = s.dirB := rfl
@[simp] theorem State.setSpeed_pwmA : (s.setSpeed v).pwmA = s.pwmA := rfl
@[simp] theorem State.setSpeed_pwmB : (s.setSpeed v).pwmB = s.pwmB := rfl
@[simp] theorem State.setSpeed_cfg : (s.setSpeed v).cfg = s.cfg := rfl
@[simp] theorem State.setSpeed_sched : (s.setSpeed v).sched = s.sched := rfl
@[simp] theorem State.setSpeed_events : (s.setSpeed v).events = s.events := rfl
@[simp] theorem State.setSpeed_draws : (s.setSpeed v).draws = s.draws := rfl

end SetSpeed

section SetAcc
variable (s : State) (b : Bool)

@[simp] theorem State.setAcc_edgeCnt : (s.setAcc b).edgeCnt = s.edgeCnt := rfl
@[simp] theorem State.setAcc_wdtCnt : (s.setAcc b).wdtCnt = s.wdtCnt := rfl
@[simp] theorem State.setAcc_idx : (s.setAcc b).idx = s.idx := rfl
@[simp] theorem State.setAcc_buf : (s.setAcc b).buf = s.buf := rfl
@[simp] theorem State.setAcc_cmd : (s.setAcc b).cmd = s.cmd := rfl
@[simp] theorem State.setAcc_action : (s.setAcc b).action = s.action := rfl
@[simp] theorem State.setAcc_speed : (s.setAcc b).speed = s.speed := rfl
@[simp] theorem State.setAcc_acc : (s.setAcc b).acc = b := rfl
@[simp] theorem State.setAcc_indParity : (s.setAcc b).indParity = s.indParity := rfl
@[simp] theorem State.setAcc_seq : (s.setAcc b).seq = s.seq := rfl
@[simp] theorem State.setAcc_settleCnt : (s.setAcc b).settleCnt = s.settleCnt := rfl
@[simp] theorem State.setAcc_estopLatch : (s.setAcc b).estopLatch = s.estopLatch := rfl
@[simp] theorem State.setAcc_gie : (s.setAcc b).gie = s.gie := rfl
@[simp] theorem State.setAcc_dirA : (s.setAcc b).dirA = s.dirA := rfl
@[simp] theorem State.setAcc_dirB : (s.setAcc b).dirB = s.dirB := rfl
@[simp] theorem State.setAcc_pwmA : (s.setAcc b).pwmA = s.pwmA := rfl
@[simp] theorem State.setAcc_pwmB : (s.setAcc b).pwmB = s.pwmB := rfl
@[simp] theorem State.setAcc_cfg : (s.setAcc b).cfg = s.cfg := rfl
@[simp] theorem State.setAcc_sched : (s.setAcc b).sched = s.sched := rfl
@[simp] theorem State.setAcc_events : (s.setAcc b).events = s.events := rfl
@[simp] theorem State.setAcc_draws : (s.setAcc b).draws = s.draws := rfl

end SetAcc

section SetSettle
variable (s : State) (n : Nat)

@[simp] theorem State.setSettle_edgeCnt : (s.setSettle n).edgeCnt = s.edgeCnt := rfl
@[simp] theorem State.setSettle_wdtCnt : (s.setSettle n).wdtCnt = s.wdtCnt := rfl
@[simp] theorem State.setSettle_idx : (s.setSettle n).idx = s.idx := rfl
@[simp] theorem State.setSettle_buf : (s.setSettle n).buf = s.buf := rfl
@[simp] theorem State.setSettle_cmd : (s.setSettle n).cmd = s.cmd := rfl
@[simp] theorem State.setSettle_action : (s.setSettle n).action = s.action := rfl
@[simp] theorem State.setSettle_speed : (s.setSettle n).speed = s.speed := rfl
@[simp] theorem State.setSettle_acc : (s.setSettle n).acc = s.acc := rfl
@[simp] theorem State.setSettle_indParity : (s.setSettle n).indParity = s.indParity := rfl
@[simp] theorem State.setSettle_seq : (s.setSettle n).seq = s.seq := rfl
@[simp] theorem State.setSettle_settleCnt : (s.setSettle n).settleCnt = n := rfl
@[simp] theorem State.setSettle_estopLatch : (s.setSettle n).estopLatch = s.estopLatch := rfl
@[simp] theorem State.setSettle_gie : (s.setSettle n).gie = s.gie := rfl
@[simp] theorem State.setSettle_dirA : (s.setSettle n).dirA = s.dirA := rfl
@[simp] theorem State.setSettle_dirB : (s.setSettle n).dirB = s.dirB := rfl
@[simp] theorem State.setSettle_pwmA : (s.setSettle n).pwmA = s.pwmA := rfl
@[simp] theorem State.setSettle_pwmB : (s.setSettle n).pwmB = s.pwmB := rfl
@[simp] theorem State.setSettle_cfg : (s.setSettle n).cfg = s.cfg := rfl
@[simp] theorem State.setSettle_sched : (s.setSettle n).sched = s.sched := rfl
@[simp] theorem State.setSettle_events : (s.setSettle n).events = s.events := rfl
@[simp] theorem State.setSettle_draws : (s.setSettle n).draws = s.draws := rfl

end SetSettle

section SetLatch
variable (s : State) (b : Bool)

@[simp] theorem State.setLatch_edgeCnt : (s.setLatch b).edgeCnt = s.edgeCnt := rfl
@[simp] theorem State.setLatch_wdtCnt : (s.setLatch b).wdtCnt = s.wdtCnt := rfl
@[simp] theorem State.setLatch_idx : (s.setLatch b).idx = s.idx := rfl
@[simp] theorem State.setLatch_buf : (s.setLatch b).buf = s.buf := rfl
@[simp] theorem State.setLatch_cmd : (s.setLatch b).cmd = s.cmd := rfl
@[simp] theorem State.setLatch_action : (s.setLatch b).action = s.action := rfl
@[simp] theorem State.setLatch_speed : (s.setLatch b).speed = s.speed := rfl
@[simp] theorem State.setLatch_acc : (s.setLatch b).acc = s.acc := rfl
@[simp] theorem State.setLatch_indParity : (s.setLatch b).indParity = s.indParity := rfl
@[simp] theorem State.setLatch_seq : (s.setLatch b).seq = s.seq := rfl
@[simp] theorem State.setLatch_settleCnt : (s.setLatch b).settleCnt = s.settleCnt := rfl
@[simp] theorem State.setLatch_estopLatch : (s.setLatch b).estopLatch = b := rfl
@[simp] theorem State.setLatch_gie : (s.setLatch b).gie = s.gie := rfl
@[simp] theorem State.setLatch_dirA : (s.setLatch b).dirA = s.dirA := rfl
@[simp] theorem State.setLatch_dirB : (s.setLatch b).dirB = s.dirB := rfl
@[simp] theorem State.setLatch_pwmA : (s.setLatch b).pwmA = s.pwmA := rfl
@[simp] theorem State.setLatch_pwmB : (s.setLatch b).pwmB = s.pwmB := rfl
@[simp] theorem State.setLatch_cfg : (s.setLatch b).cfg = s.cfg := rfl
@[simp] theorem State.setLatch_sched : (s.setLatch b).sched = s.sched := rfl
@[simp] theorem State.setLatch_events : (s.setLatch b).events = s.events := rfl
@[simp] theorem State.setLatch_draws : (s.setLatch b).draws = s.draws := rfl

end SetLatch

section SetGie
variable (s : State) (b : Bool)

@[simp] theorem State.setGie_edgeCnt : (s.setGie b).edgeCnt = s.edgeCnt := rfl
@[simp] theorem State.setGie_wdtCnt : (s.setGie b).wdtCnt = s.wdtCnt := rfl
@[simp] theorem State.setGie_idx : (s.setGie b).idx = s.idx := rfl
@[simp] theorem State.setGie_buf : (s.setGie b).buf = s.buf := rfl
@[simp] theorem State.setGie_cmd : (s.setGie b).cmd = s.cmd := rfl
@[simp] theorem State.setGie_action : (s.setGie b).action = s.action := rfl
@[simp] theorem State.setGie_speed : (s.setGie b).speed = s.speed := rfl
@[simp] theorem State.setGie_acc : (s.setGie b).acc = s.acc := rfl
@[simp] theorem State.setGie_indParity : (s.setGie b).indParity = s.indParity := rfl
@[simp] theorem State.setGie_seq : (s.setGie b).seq = s.seq := rfl
@[simp] theorem State.setGie_settleCnt : (s.setGie b).settleCnt = s.settleCnt := rfl
@[simp] theorem State.setGie_estopLatch : (s.setGie b).estopLatch = s.estopLatch := rfl
@[simp] theorem State.setGie_gie : (s.setGie b).gie = b := rfl
@[simp] theorem State.setGie_dirA : (s.setGie b).dirA = s.dirA := rfl
@[simp] theorem State.setGie_dirB : (s.setGie b).dirB = s.dirB := rfl
@[simp] theorem State.setGie_pwmA : (s.setGie b).pwmA = s.pwmA := rfl
@[simp] theorem State.setGie_pwmB : (s.setGie b).pwmB = s.pwmB := rfl
@[simp] theorem State.setGie_cfg : (s.setGie b).cfg = s.cfg := rfl
@[simp] theorem State.setGie_sched : (s.setGie b).sched = s.sched := rfl
@[simp] theorem State.setGie_events : (s.setGie b).events = s.events := rfl
@[simp] theorem State.setGie_draws : (s.setGie b).draws = s.draws := rfl

end SetGie

section ClearTimers
variable (s : State)

@[simp] theorem State.clearTimers_edgeCnt : s.clearTimers.edgeCnt = 0 := rfl
@[simp] theorem State.clearTimers_wdtCnt : s.clearTimers.wdtCnt = 0 := rfl
@[simp] theorem State.clearTimers_idx : s.clearTimers.idx = s.idx := rfl
@[simp] theorem State.clearTimers_buf : s.clearTimers.buf = s.buf := rfl
@[simp] theorem State.clearTimers_cmd : s.clearTimers.cmd = s.cmd := rfl
@[simp] theorem State.clearTimers_action : s.clearTimers.action = s.action := rfl
@[simp] theorem State.clearTimers_speed : s.clearTimers.speed = s.speed := rfl
@[simp] theorem State.clearTimers_acc : s.clearTimers.acc = s.acc := rfl
@[simp] theorem State.clearTimers_indParity : s.clearTimers.indParity = s.indParity := rfl
@[simp] theorem State.clearTimers_seq : s.clearTimers.seq = s.seq := rfl
@[simp] theorem State.clearTimers_settleCnt : s.clearTimers.settleCnt = s.settleCnt := rfl
@[simp] theorem State.clearTimers_estopLatch : s.clearTimers.estopLatch = s.estopLatch := rfl
@[simp] theorem State.clearTimers_gie : s.clearTimers.gie = s.gie := rfl
@[simp] theorem State.clearTimers_dirA : s.clearTimers.dirA = s.dirA := rfl
@[simp] theorem State.clearTimers_dirB : s.clearTimers.dirB = s.dirB := rfl
@[simp] theorem State.clearTimers_pwmA : s.clearTimers.pwmA = s.pwmA := rfl
@[simp] theorem State.clearTimers_pwmB : s.clearTimers.pwmB = s.pwmB := rfl
@[simp] theorem State.clearTimers_cfg : s.clearTimers.cfg = s.cfg := rfl
@[simp] theorem State.clearTimers_sched : s.clearTimers.sched = s.sched := rfl
@[simp] theorem State.clearTimers_events : s.clearTimers.events = s.events := rfl
@[simp] theorem State.clearTimers_draws : s.clearTimers.draws = s.draws := rfl

end ClearTimers

section CountTick
variable (s : State)

@[simp] theorem State.countTick_edgeCnt : s.countTick.edgeCnt = (s.edgeCnt + 1) % 2 ^ s.cfg.cntWidth := rfl
@[simp] theorem State.countTick_wdtCnt : s.countTick.wdtCnt = s.wdtCnt := rfl
@[simp] theorem State.countTick_idx : s.countTick.idx = s.idx := rfl
@[simp] theorem State.countTick_buf : s.countTick.buf = s.buf := rfl
@[simp] theorem State.countTick_cmd : s.countTick.cmd = s.cmd := rfl
@[simp] theorem State.countTick_action : s.countTick.action = s.action := rfl
@[simp] theorem State.countTick_speed : s.countTick.speed = s.speed := rfl
@[simp] theorem State.countTick_acc : s.countTick.acc = s.acc := rfl
@[simp] theorem State.countTick_indParity : s.countTick.indParity = s.indParity := rfl
@[simp] theorem State.countTick_seq : s.countTick.seq = s.seq := rfl
@[simp] theorem State.countTick_settleCnt : s.countTick.settleCnt = s.settleCnt - 1 := rfl
@[simp] theorem State.countTick_estopLatch : s.countTick.estopLatch = s.estopLatch := rfl
@[simp] theorem State.countTick_gie : s.countTick.gie = s.gie := rfl
@[simp] theorem State.countTick_dirA : s.countTick.dirA = s.dirA := rfl
@[simp] theorem State.countTick_dirB : s.countTick.dirB = s.dirB := rfl
@[simp] theorem State.countTick_pwmA : s.countTick.pwmA = s.pwmA := rfl
@[simp] theorem State.countTick_pwmB : s.countTick.pwmB = s.pwmB := rfl
@[simp] theorem State.countTick_cfg : s.countTick.cfg = s.cfg := rfl
@[simp] theorem State.countTick_sched : s.countTick.sched = s.sched := rfl
@[simp] theorem State.countTick_events : s.countTick.events = s.events := rfl
@[simp] theorem State.countTick_draws : s.countTick.draws = s.draws := rfl

end CountTick

section DrawParity
variable (s : State)

@[simp] theorem State.drawParity_edgeCnt : s.drawParity.edgeCnt = s.edgeCnt := rfl
@[simp] theorem State.drawParity_wdtCnt : s.drawParity.wdtCnt = s.wdtCnt := rfl
@[simp] theorem State.drawParity_idx : s.drawParity.idx = s.idx := rfl
@[simp] theorem State.drawParity_buf : s.drawParity.buf = s.buf := rfl
@[simp] theorem State.drawParity_cmd : s.drawParity.cmd = s.cmd := rfl
@[simp] theorem State.drawParity_action : s.drawParity.action = s.action := rfl
@[simp] theorem State.drawParity_speed : s.drawParity.speed = s.speed := rfl
@[simp] theorem State.drawParity_acc : s.drawParity.acc = s.acc := rfl
@[simp] theorem State.drawParity_indParity : s.drawParity.indParity = Config.freeParity s.draws := rfl
@[simp] theorem State.drawParity_seq : s.drawParity.seq = s.seq := rfl
@[simp] theorem State.drawParity_settleCnt : s.drawParity.settleCnt = s.settleCnt := rfl
@[simp] theorem State.drawParity_estopLatch : s.drawParity.estopLatch = s.estopLatch := rfl
@[simp] theorem State.drawParity_gie : s.drawParity.gie = s.gie := rfl
@[simp] theorem State.drawParity_dirA : s.drawParity.dirA = s.dirA := rfl
@[simp] theorem State.drawParity_dirB : s.drawParity.dirB = s.dirB := rfl
@[simp] theorem State.drawParity_pwmA : s.drawParity.pwmA = s.pwmA := rfl
@[simp] theorem State.drawParity_pwmB : s.drawParity.pwmB = s.pwmB := rfl
@[simp] theorem State.drawParity_cfg : s.drawParity.cfg = s.cfg := rfl
@[simp] theorem State.drawParity_sched : s.drawParity.sched = s.sched := rfl
@[simp] theorem State.drawParity_events : s.drawParity.events = s.events := rfl
@[simp] theorem State.drawParity_draws : s.drawParity.draws = s.draws + 1 := rfl

end DrawParity

section SetSched
variable (s : State) (l : List Entry)

@[simp] theorem State.setSched_edgeCnt : (s.setSched l).edgeCnt = s.edgeCnt := rfl
@[simp] theorem State.setSched_wdtCnt : (s.setSched l).wdtCnt = s.wdtCnt := rfl
@[simp] theorem State.setSched_idx : (s.setSched l).idx = s.idx := rfl
@[simp] theorem State.setSched_buf : (s.setSched l).buf = s.buf := rfl
@[simp] theorem State.setSched_cmd : (s.setSched l).cmd = s.cmd := rfl
@[simp] theorem State.setSched_action : (s.setSched l).action = s.action := rfl
@[simp] theorem State.setSched_speed : (s.setSched l).speed = s.speed := rfl
@[simp] theorem State.setSched_acc : (s.setSched l).acc = s.acc := rfl
@[simp] theorem State.setSched_indParity : (s.setSched l).indParity = s.indParity := rfl
@[simp] theorem State.setSched_seq : (s.setSched l).seq = s.seq := rfl
@[simp] theorem State.setSched_settleCnt : (s.setSched l).settleCnt = s.settleCnt := rfl
@[simp] theorem State.setSched_estopLatch : (s.setSched l).estopLatch = s.estopLatch := rfl
@[simp] theorem State.setSched_gie : (s.setSched l).gie = s.gie := rfl
@[simp] theorem State.setSched_dirA : (s.setSched l).dirA = s.dirA := rfl
@[simp] theorem State.setSched_dirB : (s.setSched l).dirB = s.dirB := rfl
@[simp] theorem State.setSched_pwmA : (s.setSched l).pwmA = s.pwmA := rfl
@[simp] theorem State.setSched_pwmB : (s.setSched l).pwmB = s.pwmB := rfl
@[simp] theorem State.setSched_cfg : (s.setSched l).cfg = s.cfg := rfl
@[simp] theorem State.setSched_sched : (s.setSched l).sched = l := rfl
@[simp] theorem State.setSched_events : (s.setSched l).events = s.events := rfl
@[simp] theorem State.setSched_draws : (s.setSched l).draws = s.draws := rfl

end SetSched

section NextDraw
variable (s : State)

@[simp] theorem State.nextDraw_edgeCnt : s.nextDraw.edgeCnt = s.edgeCnt := rfl
@[simp] theorem State.nextDraw_wdtCnt : s.nextDraw.wdtCnt = s.wdtCnt := rfl
@[simp] theorem State.nextDraw_idx : s.nextDraw.idx = s.idx := rfl
@[simp] theorem State.nextDraw_buf : s.nextDraw.buf = s.buf := rfl
@[simp] theorem State.nextDraw_cmd : s.nextDraw.cmd = s.cmd := rfl
@[simp] theorem State.nextDraw_action : s.nextDraw.action = s.action := rfl
@[simp] theorem State.nextDraw_speed : s.nextDraw.speed = s.speed := rfl
@[simp] theorem State.nextDraw_acc : s.nextDraw.acc = s.acc := rfl
@[simp] theorem State.nextDraw_indParity : s.nextDraw.indParity = s.indParity := rfl
@[simp] theorem State.nextDraw_seq : s.nextDraw.seq = s.seq := rfl
@[simp] theorem State.nextDraw_settleCnt : s.nextDraw.settleCnt = s.settleCnt := rfl
@[simp] theorem State.nextDraw_estopLatch : s.nextDraw.estopLatch = s.estopLatch := rfl
@[simp] theorem State.nextDraw_gie : s.nextDraw.gie = s.gie := rfl
@[simp] theorem State.nextDraw_dirA : s.nextDraw.dirA = s.dirA := rfl
@[simp] theorem State.nextDraw_dirB : s.nextDraw.dirB = s.dirB := rfl
@[simp] theorem State.nextDraw_pwmA : s.nextDraw.pwmA = s.pwmA := rfl
@[simp] theorem State.nextDraw_pwmB : s.nextDraw.pwmB = s.pwmB := rfl
@[simp] theorem State.nextDraw_cfg : s.nextDraw.cfg = s.cfg := rfl
@[simp] theorem State.nextDraw_sched : s.nextDraw.sched = s.sched := rfl
@[simp] theorem State.nextDraw_events : s.nextDraw.events = s.events := rfl
@[simp] theorem State.nextDraw_draws : s.nextDraw.draws = s.draws + 1 := rfl

end NextDraw

end Sys2Proof.Machine
end

