-- ==== Sys2Proof/Laws/Ops.lean ====
section
/-! SUPPORT. One lemma per shared operation: all that it can do. -/

namespace Sys2Proof.Machine

/-! The frame buffer. -/

@[simp] theorem readSlot_writeSlot_same (b : FrameBuffer) (k v : Nat) (h : k < 34) :
    readSlot (writeSlot b k v) k = v := by
  simp [readSlot, writeSlot, h]

theorem readSlot_writeSlot_other (b : FrameBuffer) (j k v : Nat) (h : j ≠ k) :
    readSlot (writeSlot b k v) j = readSlot b j := by
  by_cases hj : j < 34 <;> by_cases hk : k < 34 <;>
    simp [readSlot, writeSlot, hj, hk, h.symm]

/-- Equal slots make equal buffers: a write that changes no slot changes nothing. -/
theorem buffer_ext (b b' : FrameBuffer) (h : ∀ k, k < 34 → readSlot b k = readSlot b' k) : b = b' := by
  ext i hi
  have := h i hi
  simpa [readSlot, hi] using this

/-! The guards of the sequencer's operations. -/

theorem atSeq_next {q : Code3} {s t : State} {r : Result} (h : atSeq q s r = .next t) :
    s.seq = q ∧ r = .next t := by
  unfold atSeq at h
  split at h
  · exact ⟨‹_›, h⟩
  · split at h <;> cases h

theorem atSeq_of_eq {q : Code3} {s : State} (r : Result) (h : s.seq = q) : atSeq q s r = r :=
  if_pos h

theorem atSeq_refused {q : Code3} {s : State} (r : Result) (h : s.seq ≠ q) (hl : Seq.legal s.seq = true) :
    atSeq q s r = .refused .selectorDisagrees := by
  simp [atSeq, h, hl]

theorem atSeq_unused {q : Code3} {s : State} (r : Result) (hq : Seq.legal q = true)
    (hl : Seq.legal s.seq = false) : atSeq q s r = .fault .seqUnused := by
  have h : s.seq ≠ q := fun h => by rw [h, hq] at hl; cases hl
  simp [atSeq, h, hl]

theorem atAct_next {a : Action} {s t : State} {r : Result} (h : atAct a s r = .next t) :
    s.seq = Seq.act ∧ s.action = a ∧ r = .next t := by
  obtain ⟨hq, h⟩ := atSeq_next h
  split at h
  · exact ⟨hq, ‹_›, h⟩
  · cases h

theorem atAct_of_eq {a : Action} {s : State} (r : Result) (hq : s.seq = Seq.act) (ha : s.action = a) :
    atAct a s r = r := by
  simp [atAct, atSeq, hq, ha]

/-! De-energizing. -/

@[simp] theorem deEnergized_deEnergize (s : State) : s.deEnergize.deEnergized = true := by
  simp [State.deEnergized]

theorem deEnergized_iff (s : State) : s.deEnergized = true ↔
    s.dirA = Direction.off ∧ s.dirB = Direction.off ∧ s.pwmA = 0#8 ∧ s.pwmB = 0#8 := by
  simp [State.deEnergized, and_assoc]

theorem frameComplete_iff (s : State) : s.frameComplete = true ↔ s.idx.toNat = 34 :=
  decide_eq_true_iff

theorem wdtExpires_iff (s : State) : s.wdtExpires = true ↔ s.wdtCnt = s.cfg.wdtPeriod - 1 := by
  simp [State.wdtExpires]

/-! Reporting an unknown command. -/

theorem emitUnknown_eq (s : State) : s.emitUnknown =
    { s with events := s.events ++ if s.cmd ∈ s.cfg.codes then [] else [.unknownCmd s.cmd] } := by
  unfold State.emitUnknown
  split <;> simp [State.emit]

/-! The overflowing tick. -/

theorem overflowTick_eq (s : State) (h : s.gie = true → s.idx.toNat ≤ 34) : overflowTick s = .next
    { s with
      edgeCnt := (s.edgeCnt + 1) % 2 ^ s.cfg.cntWidth
      settleCnt := s.settleCnt - 1
      wdtCnt := 0
      idx := if s.gie then 0#6 else s.idx
      events := s.events ++
        if s.gie ∧ 0 < s.idx.toNat then [.frameAbort s.idx.toNat] else [] } := by
  unfold overflowTick abortFrame
  by_cases hg : s.gie = true
  · have hi : ¬ nSlots < s.idx.toNat := by simpa [nSlots] using h hg
    by_cases h0 : 0 < s.idx.toNat <;> simp [hg, hi, h0] <;>
      simp [State.countTick, State.setWdt, State.setIdx, State.emit, hg]
  · simp [hg]
    simp [State.countTick, State.setWdt, hg]

theorem overflowTick_inRange {s t : State} (h : overflowTick s = .next t) :
    s.gie = true → s.idx.toNat ≤ 34 := by
  intro hg
  unfold overflowTick abortFrame at h
  by_cases hi : nSlots < s.idx.toNat
  · simp [hg, hi] at h
  · simpa [nSlots] using hi

theorem overflowTick_next {s t : State} (h : overflowTick s = .next t) :
    (s.gie = true → s.idx.toNat ≤ 34) ∧ t =
    { s with
      edgeCnt := (s.edgeCnt + 1) % 2 ^ s.cfg.cntWidth
      settleCnt := s.settleCnt - 1
      wdtCnt := 0
      idx := if s.gie then 0#6 else s.idx
      events := s.events ++
        if s.gie ∧ 0 < s.idx.toNat then [.frameAbort s.idx.toNat] else [] } := by
  have hr := overflowTick_inRange h
  rw [overflowTick_eq s hr] at h
  exact ⟨hr, by cases h; rfl⟩

/-! The saturated speed. -/

theorem speedUp_toNat (v : Level) : (speedUp v).toNat = min (v.toNat + 10) 100 := by
  have := v.isLt
  simp only [speedUp, speedStep, speedMax, BitVec.toNat_ofNat]
  omega

theorem speedDown_toNat (v : Level) : (speedDown v).toNat = v.toNat - 10 := by
  have := v.isLt
  simp only [speedDown, speedStep, speedMin, BitVec.toNat_ofNat]
  omega

/-! The dispatch table. -/

theorem patternOf_isSome (c : Config) (a : Action) : (patternOf c a).isSome = a.isMotion := by
  cases a <;> rfl

end Sys2Proof.Machine
end

