-- ==== Sys2Proof/Laws/Exec.lean ====
section
/-! SUPPORT. What each operation can do: if it answers a next state, that state is one of these. Proofs
about every operation case on the operation and cite these, and unfold no meaning. -/

namespace Sys2Proof.Machine

variable {s t : State}

theorem execTick_next (h : execTick s = .next t) :
    (s.wdtCnt = s.cfg.wdtPeriod - 1 ∧ overflowTick s = .next t) ∨
    (s.wdtCnt ≠ s.cfg.wdtPeriod - 1 ∧ t = s.countTick.setWdt (s.wdtCnt + 1)) := by
  unfold execTick at h
  by_cases hp : s.wdtExpires = true
  · exact .inl ⟨(wdtExpires_iff s).1 hp, by simpa [hp] using h⟩
  · simp only [hp, Bool.false_eq_true, if_false, Host.Outcome.next.injEq] at h
    exact .inr ⟨fun hn => hp ((wdtExpires_iff s).2 hn), h.symm⟩

theorem execWdtOvf_next (h : execWdtOvf s = .next t) :
    s.wdtCnt = s.cfg.wdtPeriod - 1 ∧ overflowTick s = .next t := by
  unfold execWdtOvf at h
  by_cases hp : s.wdtExpires = true
  · exact ⟨(wdtExpires_iff s).1 hp, by simpa [hp] using h⟩
  · simp [hp] at h

theorem execIrEdge_next (h : execIrEdge s = .next t) :
    (s.gie = false ∧ t = s) ∨
    (s.gie = true ∧ s.idx.toNat < 34 ∧ t = storeSample s) ∨
    (s.gie = true ∧ s.idx.toNat = 34 ∧ t = loseSample s) := by
  unfold execIrEdge nSlots at h
  by_cases hg : s.gie = true
  · by_cases hi : s.idx.toNat < 34
    · simp [hg, hi] at h
      exact .inr (.inl ⟨hg, hi, h.symm⟩)
    · by_cases he : s.idx.toNat = 34
      · simp [hg, he] at h
        exact .inr (.inr ⟨hg, he, h.symm⟩)
      · simp [hg, hi, he] at h
  · simp [hg] at h
    exact .inl ⟨by simpa using hg, h.symm⟩

/-- A lost edge changes the timers, the trace, and under OVERWRITE_LAST slot 33. -/
theorem loseSample_eq (s : State) : loseSample s =
    { s with
      edgeCnt := 0, wdtCnt := 0
      buf := if s.cfg.fullPolicy = .overwriteLast then writeSlot s.buf 33 s.edgeCnt else s.buf
      events := s.events ++ [.edgeLost s.edgeCnt] } := by
  unfold loseSample
  cases hp : s.cfg.fullPolicy <;> simp [State.emit, State.clearTimers, State.setBuf]

theorem execEstopEdge_next (h : execEstopEdge s = .next t) :
    t = (s.deEnergize.setLatch true).emit .estop := by
  cases h; rfl

theorem execBoot_next (h : execBoot s = .next t) :
    s.seq = Seq.boot ∧
      t = { s with edgeCnt := 0, wdtCnt := 0, idx := 0#6, gie := true, seq := Seq.idle } := by
  obtain ⟨hq, h⟩ := atSeq_next h
  cases h; exact ⟨hq, rfl⟩

theorem execDecode_next (h : execDecode s = .next t) :
    s.seq = Seq.idle ∧
      ((s.idx.toNat = 34 ∧ t = takeFrame s) ∨ (s.idx.toNat < 34 ∧ t = s)) := by
  obtain ⟨hq, h⟩ := atSeq_next h
  refine ⟨hq, ?_⟩
  by_cases hc : s.frameComplete = true
  · simp [hc] at h
    exact .inl ⟨(frameComplete_iff s).1 hc, h.symm⟩
  · by_cases hi : s.idx.toNat < nSlots
    · simp [hc, hi] at h
      exact .inr ⟨hi, h.symm⟩
    · simp [hc, hi] at h

theorem takeFrame_eq (s : State) : takeFrame s =
    { s with
      cmd := decodeFrame s.cfg s.buf, idx := 0#6, estopLatch := latchAfterDecode s
      events := s.events ++ [.frameDecoded (decodeFrame s.cfg s.buf)]
      seq := Seq.dispatch } := rfl

theorem execDispatch_next (h : execDispatch s = .next t) :
    s.seq = Seq.dispatch ∧
      t = { s with
            action := lookup s.cfg s.cmd
            indParity := Config.freeParity s.draws, draws := s.draws + 1
            events := s.events ++ [.dispatched (lookup s.cfg s.cmd)] ++
              (if s.cmd ∈ s.cfg.codes then [] else [.unknownCmd s.cmd])
            seq := Seq.act } := by
  obtain ⟨hq, h⟩ := atSeq_next h
  refine ⟨hq, ?_⟩
  simp only [Host.Outcome.next.injEq] at h
  rw [← h, emitUnknown_eq]
  simp only [State.goto, State.emit, State.drawParity, State.setAction]
  rfl

theorem motionEntry_eq (s : State) : motionEntry s =
    (s.deEnergize.setSettle s.cfg.tSettle).goto Seq.settle := rfl

theorem applySpeed_eq (s : State) (v : Level) : applySpeed s v =
    { s with
      speed := v
      pwmA := if s.estopLatch then s.pwmA else v
      pwmB := if s.estopLatch then s.pwmB else v } := by
  unfold applySpeed
  split <;> simp [State.setPwm, State.setSpeed, *]

theorem execActStop_next (h : execActStop s = .next t) :
    s.seq = Seq.act ∧ s.action = .stop ∧ t = s.deEnergize.goto Seq.idle := by
  obtain ⟨hq, ha, h⟩ := atAct_next h
  cases h; exact ⟨hq, ha, rfl⟩

theorem execActFwd_next (h : execActFwd s = .next t) :
    s.seq = Seq.act ∧ s.action = .fwd ∧ t = motionEntry s := by
  obtain ⟨hq, ha, h⟩ := atAct_next h
  cases h; exact ⟨hq, ha, rfl⟩

theorem execActBwd_next (h : execActBwd s = .next t) :
    s.seq = Seq.act ∧ s.action = .bwd ∧ t = motionEntry s := by
  obtain ⟨hq, ha, h⟩ := atAct_next h
  cases h; exact ⟨hq, ha, rfl⟩

theorem execActLeft_next (h : execActLeft s = .next t) :
    s.seq = Seq.act ∧ s.action = .left ∧ t = motionEntry s := by
  obtain ⟨hq, ha, h⟩ := atAct_next h
  cases h; exact ⟨hq, ha, rfl⟩

theorem execActRight_next (h : execActRight s = .next t) :
    s.seq = Seq.act ∧ s.action = .right ∧ t = motionEntry s := by
  obtain ⟨hq, ha, h⟩ := atAct_next h
  cases h; exact ⟨hq, ha, rfl⟩

theorem execActSpeedup_next (h : execActSpeedup s = .next t) :
    s.seq = Seq.act ∧ s.action = .speedup ∧ t = (applySpeed s (speedUp s.speed)).goto Seq.idle := by
  obtain ⟨hq, ha, h⟩ := atAct_next h
  cases h; exact ⟨hq, ha, rfl⟩

theorem execActSlowdown_next (h : execActSlowdown s = .next t) :
    s.seq = Seq.act ∧ s.action = .slowdown ∧
      t = (applySpeed s (speedDown s.speed)).goto Seq.idle := by
  obtain ⟨hq, ha, h⟩ := atAct_next h
  cases h; exact ⟨hq, ha, rfl⟩

theorem execActAccToggle_next (h : execActAccToggle s = .next t) :
    s.seq = Seq.act ∧ s.action = .accToggle ∧ t = { s with acc := !s.acc, seq := Seq.idle } := by
  obtain ⟨hq, ha, h⟩ := atAct_next h
  cases h; exact ⟨hq, ha, rfl⟩

theorem execSettle_next (h : execSettle s = .next t) :
    s.seq = Seq.settle ∧
      ((0 < s.settleCnt ∧ t = s) ∨
       (s.settleCnt = 0 ∧ s.estopLatch = true ∧ t = s.goto Seq.idle) ∨
       (s.settleCnt = 0 ∧ s.estopLatch = false ∧ ∃ p, patternOf s.cfg s.action = some p ∧
          t = ((s.setDir p).setPwm s.speed).goto Seq.idle)) := by
  obtain ⟨hq, h⟩ := atSeq_next h
  refine ⟨hq, ?_⟩
  by_cases hc : s.settleCnt = 0
  · simp only [hc, if_true, assertMotion] at h
    by_cases hl : s.estopLatch = true
    · simp only [hl, if_true, Host.Outcome.next.injEq] at h
      exact .inr (.inl ⟨hc, hl, h.symm⟩)
    · simp only [hl, Bool.false_eq_true, if_false] at h
      split at h
      · rename_i p hp
        simp only [Host.Outcome.next.injEq] at h
        exact .inr (.inr ⟨hc, by simpa using hl, p, hp, h.symm⟩)
      · cases h
  · simp only [hc, if_false, Host.Outcome.next.injEq] at h
    exact .inl ⟨by omega, h.symm⟩

/-- All that one operation can do: one line for each case the rules tell apart. -/
theorem exec_next {i : Instr} (h : exec i s = .next t) :
    (i = .tick ∧ s.wdtCnt ≠ s.cfg.wdtPeriod - 1 ∧ t = s.countTick.setWdt (s.wdtCnt + 1)) ∨
    ((i = .tick ∨ i = .wdtOvf) ∧ s.wdtCnt = s.cfg.wdtPeriod - 1 ∧
      (s.gie = true → s.idx.toNat ≤ 34) ∧
      t = { s with
            edgeCnt := (s.edgeCnt + 1) % 2 ^ s.cfg.cntWidth
            settleCnt := s.settleCnt - 1
            wdtCnt := 0
            idx := if s.gie then 0#6 else s.idx
            events := s.events ++
              if s.gie ∧ 0 < s.idx.toNat then [.frameAbort s.idx.toNat] else [] }) ∨
    (i = .irEdge ∧ s.gie = false ∧ t = s) ∨
    (i = .irEdge ∧ s.gie = true ∧ s.idx.toNat < 34 ∧ t = storeSample s) ∨
    (i = .irEdge ∧ s.gie = true ∧ s.idx.toNat = 34 ∧
      t = { s with
            edgeCnt := 0, wdtCnt := 0
            buf := if s.cfg.fullPolicy = .overwriteLast then writeSlot s.buf 33 s.edgeCnt else s.buf
            events := s.events ++ [.edgeLost s.edgeCnt] }) ∨
    (i = .estopEdge ∧ t = (s.deEnergize.setLatch true).emit .estop) ∨
    (i = .boot ∧ s.seq = Seq.boot ∧
      t = { s with edgeCnt := 0, wdtCnt := 0, idx := 0#6, gie := true, seq := Seq.idle }) ∨
    (i = .decode ∧ s.seq = Seq.idle ∧ s.idx.toNat = 34 ∧
      t = { s with
            cmd := decodeFrame s.cfg s.buf, idx := 0#6, estopLatch := latchAfterDecode s
            events := s.events ++ [.frameDecoded (decodeFrame s.cfg s.buf)]
            seq := Seq.dispatch }) ∨
    (i = .decode ∧ s.seq = Seq.idle ∧ s.idx.toNat < 34 ∧ t = s) ∨
    (i = .dispatch ∧ s.seq = Seq.dispatch ∧
      t = { s with
            action := lookup s.cfg s.cmd
            indParity := Config.freeParity s.draws, draws := s.draws + 1
            events := s.events ++ [.dispatched (lookup s.cfg s.cmd)] ++
              (if s.cmd ∈ s.cfg.codes then [] else [.unknownCmd s.cmd])
            seq := Seq.act }) ∨
    (i = .actStop ∧ s.seq = Seq.act ∧ s.action = .stop ∧ t = s.deEnergize.goto Seq.idle) ∨
    (i = s.action.instr ∧ s.action.isMotion = true ∧ s.seq = Seq.act ∧
      t = (s.deEnergize.setSettle s.cfg.tSettle).goto Seq.settle) ∨
    (i = .actSpeedup ∧ s.seq = Seq.act ∧ s.action = .speedup ∧
      t = (applySpeed s (speedUp s.speed)).goto Seq.idle) ∨
    (i = .actSlowdown ∧ s.seq = Seq.act ∧ s.action = .slowdown ∧
      t = (applySpeed s (speedDown s.speed)).goto Seq.idle) ∨
    (i = .actAccToggle ∧ s.seq = Seq.act ∧ s.action = .accToggle ∧
      t = { s with acc := !s.acc, seq := Seq.idle }) ∨
    (i = .settle ∧ s.seq = Seq.settle ∧ 0 < s.settleCnt ∧ t = s) ∨
    (i = .settle ∧ s.seq = Seq.settle ∧ s.settleCnt = 0 ∧ s.estopLatch = true ∧
      t = s.goto Seq.idle) ∨
    (i = .settle ∧ s.seq = Seq.settle ∧ s.settleCnt = 0 ∧ s.estopLatch = false ∧
      ∃ p, patternOf s.cfg s.action = some p ∧
        t = ((s.setDir p).setPwm s.speed).goto Seq.idle) := by
  cases i with
  | tick =>
    rcases execTick_next h with ⟨h1, h2⟩ | ⟨h1, h2⟩
    · obtain ⟨h3, h4⟩ := overflowTick_next h2
      exact .inr (.inl ⟨.inl rfl, h1, h3, h4⟩)
    · exact .inl ⟨rfl, h1, h2⟩
  | wdtOvf =>
    obtain ⟨h1, h2⟩ := execWdtOvf_next h
    obtain ⟨h3, h4⟩ := overflowTick_next h2
    exact .inr (.inl ⟨.inr rfl, h1, h3, h4⟩)
  | irEdge =>
    rcases execIrEdge_next h with h | h | ⟨h1, h2, h3⟩
    · exact .inr (.inr (.inl ⟨rfl, h⟩))
    · exact .inr (.inr (.inr (.inl ⟨rfl, h⟩)))
    · rw [loseSample_eq] at h3
      exact .inr (.inr (.inr (.inr (.inl ⟨rfl, h1, h2, h3⟩))))
  | estopEdge => simp [execEstopEdge_next h]
  | boot =>
    obtain ⟨h1, h2⟩ := execBoot_next h
    simp [h1, h2]
  | decode =>
    obtain ⟨h1, h2⟩ := execDecode_next h
    rw [takeFrame_eq] at h2
    rcases h2 with h2 | h2 <;> simp [h1, h2]
  | dispatch =>
    obtain ⟨h1, h2⟩ := execDispatch_next h
    simp [h1, h2]
  | actStop => simp [execActStop_next h]
  | actFwd => simp [execActFwd_next h, motionEntry_eq, Action.instr, Action.isMotion]
  | actBwd => simp [execActBwd_next h, motionEntry_eq, Action.instr, Action.isMotion]
  | actLeft => simp [execActLeft_next h, motionEntry_eq, Action.instr, Action.isMotion]
  | actRight => simp [execActRight_next h, motionEntry_eq, Action.instr, Action.isMotion]
  | actSpeedup => simp [execActSpeedup_next h]
  | actSlowdown => simp [execActSlowdown_next h]
  | actAccToggle => simp [execActAccToggle_next h]
  | settle =>
    obtain ⟨h1, h2 | h2 | ⟨h2, h3, p, h4, h5⟩⟩ := execSettle_next h
    · simp [h1, h2]
    · simp [h1, h2]
    · simp [h1, h2, h3, h4, h5]

end Sys2Proof.Machine
end

