-- ==== Sys2Proof/Laws/PerInstr.lean ====
section
/-! SUPPORT. Families of statements made per operation. -/

namespace Sys2Proof.Laws

/-- The selector of an operation (`30_encoding.md` R59): its byte names the operation itself, but for
WDT_OVF, whose byte is TICK's; its `STEP` field is the code of its agent; and it names a step (R60). -/
def SelectorFields.Statement (i : Instr) : Prop :=
  decodeWord (encode i) = .ok i.byWord ∧
    (Selector.ofWord (encode i)).step = i.agent.stepCode ∧
    (Selector.ofWord (encode i)).wf = true

theorem SelectorFields.tick : SelectorFields.Statement .tick := ⟨rfl, rfl, rfl⟩
theorem SelectorFields.wdtOvf : SelectorFields.Statement .wdtOvf := ⟨rfl, rfl, rfl⟩
theorem SelectorFields.irEdge : SelectorFields.Statement .irEdge := ⟨rfl, rfl, rfl⟩
theorem SelectorFields.estopEdge : SelectorFields.Statement .estopEdge := ⟨rfl, rfl, rfl⟩
theorem SelectorFields.boot : SelectorFields.Statement .boot := ⟨rfl, rfl, rfl⟩
theorem SelectorFields.decode : SelectorFields.Statement .decode := ⟨rfl, rfl, rfl⟩
theorem SelectorFields.dispatch : SelectorFields.Statement .dispatch := ⟨rfl, rfl, rfl⟩
theorem SelectorFields.actStop : SelectorFields.Statement .actStop := ⟨rfl, rfl, rfl⟩
theorem SelectorFields.actFwd : SelectorFields.Statement .actFwd := ⟨rfl, rfl, rfl⟩
theorem SelectorFields.actBwd : SelectorFields.Statement .actBwd := ⟨rfl, rfl, rfl⟩
theorem SelectorFields.actLeft : SelectorFields.Statement .actLeft := ⟨rfl, rfl, rfl⟩
theorem SelectorFields.actRight : SelectorFields.Statement .actRight := ⟨rfl, rfl, rfl⟩
theorem SelectorFields.actSpeedup : SelectorFields.Statement .actSpeedup := ⟨rfl, rfl, rfl⟩
theorem SelectorFields.actSlowdown : SelectorFields.Statement .actSlowdown := ⟨rfl, rfl, rfl⟩
theorem SelectorFields.actAccToggle : SelectorFields.Statement .actAccToggle := ⟨rfl, rfl, rfl⟩
theorem SelectorFields.settle : SelectorFields.Statement .settle := ⟨rfl, rfl, rfl⟩

end Sys2Proof.Laws
end

