-- ==== Sys2Proof/Laws/Step.lean ====
section
/-! SUPPORT. What reading the schedule and one step can do: the operation runs from the state before with
only the schedule and the draw counter moved on. -/

namespace Sys2Proof.Machine

/-- Two states that agree on everything but the schedule and the draw counter. -/
def SameCore (s s' : State) : Prop :=
  s' = { s with sched := s'.sched, draws := s'.draws }

theorem SameCore.setSched (s : State) (l : List Entry) : SameCore s (s.setSched l) := rfl

theorem SameCore.setSched_nextDraw (s : State) (l : List Entry) :
    SameCore s (s.setSched l).nextDraw := rfl

theorem fetchAgent_next {a : Agent} {s s' : State} {i : Instr} (h : fetchAgent a s = .next (i, s')) :
    agentInstr a s = some i ∧ s' = s := by
  unfold fetchAgent at h
  split at h
  · rename_i j hj
    simp only [Host.Outcome.next.injEq, Prod.mk.injEq] at h
    exact ⟨by rw [hj, h.1], h.2.symm⟩
  · cases h

theorem fetchWord_next {w : SelectorWord} {s s' : State} {i : Instr}
    (h : fetchWord w s = .next (i, s')) :
    ∃ j, decodeWord w = .ok j ∧ i = resolve s j ∧ s' = s := by
  unfold fetchWord at h
  split at h
  · rename_i j hj
    simp only [Host.Outcome.next.injEq, Prod.mk.injEq] at h
    exact ⟨j, hj, h.1.symm, h.2.symm⟩
  · cases h

theorem fetchFrom_next {s s' : State} {i : Instr} :
    ∀ l, fetchFrom s l = .next (i, s') → SameCore s s' := by
  intro l
  induction l with
  | nil =>
    intro h
    obtain ⟨-, rfl⟩ := fetchAgent_next h
    exact SameCore.setSched_nextDraw s _
  | cons e r ih =>
    intro h
    cases e with
    | word w =>
      obtain ⟨-, -, -, rfl⟩ := fetchWord_next h
      exact SameCore.setSched s _
    | agent a =>
      obtain ⟨-, rfl⟩ := fetchAgent_next h
      exact SameCore.setSched s _
    | instant j =>
      unfold fetchFrom at h
      split at h
      · obtain ⟨-, rfl⟩ := fetchAgent_next h
        exact SameCore.setSched_nextDraw s _
      · exact ih h
    | run =>
      unfold fetchFrom at h
      split at h
      · exact ih h
      · obtain ⟨-, rfl⟩ := fetchAgent_next h
        exact SameCore.setSched s _

/-- Reading a schedule does not depend on the one the state holds. -/
theorem fetchFrom_setSched (s : State) (l' : List Entry) :
    ∀ l, fetchFrom (s.setSched l') l = fetchFrom s l := by
  intro l
  induction l with
  | nil => rfl
  | cons e r ih =>
    cases e with
    | word w => rfl
    | agent a => rfl
    | instant j => simp only [fetchFrom, ih]; rfl
    | run => simp only [fetchFrom, ih]; rfl

theorem fetch_next {s s' : State} {i : Instr} (h : fetch s = .next (i, s')) :
    s.cfg.wf = true ∧ SameCore s s' := by
  unfold fetch at h
  split at h
  · exact ⟨‹_›, fetchFrom_next _ h⟩
  · cases h

/-- All that one step can do. -/
theorem step_next {s t : State} (h : step s = .next t) :
    s.cfg.wf = true ∧ ∃ i s', SameCore s s' ∧ exec i s' = .next t := by
  unfold step at h
  split at h
  · rename_i i s' hf
    obtain ⟨hw, hc⟩ := fetch_next hf
    exact ⟨hw, i, s', hc, h⟩
  · cases h
  · cases h

/-- What is true of a state, and of every state that agrees with it but for the schedule and the draw
counter, and is kept by every operation, is kept by every step. -/
theorem step_keeps {P : State → Prop} (hcore : ∀ s s', SameCore s s' → P s → P s')
    (hexec : ∀ i s t, P s → exec i s = .next t → P t) {s t : State} (hs : P s)
    (h : step s = .next t) : P t := by
  obtain ⟨-, i, s', hc, he⟩ := step_next h
  exact hexec i s' t (hcore s s' hc hs) he

theorem agentInstr_agent {a : Agent} {s : State} {i : Instr} (h : agentInstr a s = some i) :
    i.agent = a := by
  cases a with
  | clk =>
    simp only [agentInstr, Option.some.injEq] at h
    split at h <;> subst h <;> rfl
  | ir => cases h; rfl
  | estop => cases h; rfl
  | seq =>
    simp only [agentInstr] at h
    repeat (split at h; · first | (cases h; rfl) | (cases h; cases s.action <;> rfl))
    cases h

theorem step_agent {s : State} {a : Agent} {i : Instr} {r : List Entry} (hw : s.cfg.wf = true)
    (hs : s.sched = .agent a :: r) (ha : agentInstr a s = some i) :
    step s = exec i (s.setSched r) := by
  have ha' : agentInstr a (s.setSched r) = some i := ha
  simp [step, fetch, hw, hs, fetchFrom, fetchAgent, ha']

end Sys2Proof.Machine
end

