-- ==== Sys2Proof/Laws/Run.lean ====
section
/-! SUPPORT. Runs: a path step by step, and a burst of edges. -/

namespace Sys2Proof.Machine

theorem Path.one {i : Instr} {s t : State} (ha : agentInstr i.agent s = some i)
    (h : exec i s = .next t) : Path [i] s t :=
  ⟨ha, t, h, rfl⟩

theorem Path.append {is js : List Instr} {s m t : State} (h : Path is s m) (h' : Path js m t) :
    Path (is ++ js) s t := by
  induction is generalizing s with
  | nil => cases h; exact h'
  | cons i is ih =>
    obtain ⟨ha, u, hu, hp⟩ := h
    exact ⟨ha, u, hu, ih hp⟩

/-- A run of one more step. -/
theorem Core_run_next (M : Host.Core) {s m : M.State} (h : M.step s = .next m) (k : Nat) :
    M.run (k + 1) s = M.run k m := by
  simp [Host.Core.run, h]

theorem execIrEdge_stores {s : State} (hg : s.gie = true) (hi : s.idx.toNat < 34) :
    exec .irEdge s = .next (storeSample s) := by
  show execIrEdge s = _
  simp [execIrEdge, hg, hi, nSlots]

/-- Edges with no tick between them fill the slots one by one (R62). -/
theorem edges_path (n : Nat) (s : State) (hg : s.gie = true) (hi : s.idx.toNat + n ≤ 34) :
    ∃ t, Path (List.replicate n .irEdge) s t ∧ t.idx.toNat = s.idx.toNat + n := by
  induction n generalizing s with
  | zero => exact ⟨s, rfl, rfl⟩
  | succ n ih =>
    have hs : (storeSample s).idx.toNat = s.idx.toNat + 1 := by simp [storeSample]; omega
    obtain ⟨t, hp, ht⟩ := ih (storeSample s) hg (by omega)
    exact ⟨t, ⟨rfl, _, execIrEdge_stores hg (by omega), hp⟩, by omega⟩

end Sys2Proof.Machine
end

