-- ==== Sys2Proof/Laws/Schedule.lean ====
section
/-! SUPPORT. The schedule and the operations: an operation from a state with another schedule has the same
outcome with that schedule left. -/

namespace Sys2Proof.Machine

/-- The same outcome with another schedule left. -/
def reschedule (l : List Entry) : Result → Result
  | .next t => .next (t.setSched l)
  | .fault f => .fault f
  | .refused r => .refused r

theorem reschedule_ite (l : List Entry) (c : Prop) [Decidable c] (a b : Result) :
    reschedule l (if c then a else b) = if c then reschedule l a else reschedule l b := by
  split <;> rfl

theorem overflowTick_setSched (s : State) (l : List Entry) :
    overflowTick (s.setSched l) = reschedule l (overflowTick s) := by
  simp only [overflowTick, abortFrame, reschedule_ite]; rfl

theorem atSeq_setSched (q : Code3) (s : State) (l : List Entry) (r : Result) :
    atSeq q (s.setSched l) (reschedule l r) = reschedule l (atSeq q s r) := by
  simp only [atSeq, reschedule_ite]; rfl

theorem loseSample_setSched (s : State) (l : List Entry) :
    loseSample (s.setSched l) = (loseSample s).setSched l := by
  rw [loseSample_eq, loseSample_eq]; rfl

theorem applySpeed_setSched (s : State) (l : List Entry) (v : Level) :
    applySpeed (s.setSched l) v = (applySpeed s v).setSched l := by
  rw [applySpeed_eq, applySpeed_eq]; rfl

theorem atAct_setSched (a : Action) (s : State) (l : List Entry) (r : Result) :
    atAct a (s.setSched l) (reschedule l r) = reschedule l (atAct a s r) := by
  rw [atAct, atAct, ← atSeq_setSched, reschedule_ite]; rfl

/-- No operation reads the schedule or writes it. -/
theorem exec_setSched (i : Instr) (s : State) (l : List Entry) :
    exec i (s.setSched l) = reschedule l (exec i s) := by
  cases i with
  | tick => simp only [exec, execTick, reschedule_ite, ← overflowTick_setSched]; rfl
  | wdtOvf => simp only [exec, execWdtOvf, reschedule_ite, ← overflowTick_setSched]; rfl
  | irEdge =>
    simp only [exec, execIrEdge, reschedule_ite]
    simp only [reschedule, ← loseSample_setSched]; rfl
  | estopEdge => rfl
  | boot => simp only [exec, execBoot, ← atSeq_setSched]; rfl
  | decode =>
    simp only [exec, execDecode, ← atSeq_setSched, reschedule_ite]; rfl
  | dispatch =>
    simp only [exec, execDispatch, ← atSeq_setSched, emitUnknown_eq]; rfl
  | actStop => simp only [exec, execActStop, ← atAct_setSched]; rfl
  | actFwd => simp only [exec, execActFwd, ← atAct_setSched]; rfl
  | actBwd => simp only [exec, execActBwd, ← atAct_setSched]; rfl
  | actLeft => simp only [exec, execActLeft, ← atAct_setSched]; rfl
  | actRight => simp only [exec, execActRight, ← atAct_setSched]; rfl
  | actSpeedup => simp only [exec, execActSpeedup, ← atAct_setSched, applySpeed_setSched]; rfl
  | actSlowdown => simp only [exec, execActSlowdown, ← atAct_setSched, applySpeed_setSched]; rfl
  | actAccToggle => simp only [exec, execActAccToggle, ← atAct_setSched]; rfl
  | settle =>
    have h : assertMotion (s.setSched l) = reschedule l (assertMotion s) := by
      simp only [assertMotion, reschedule_ite, State.setSched_action, State.setSched_cfg]
      cases patternOf s.cfg s.action <;> rfl
    simp only [exec, execSettle, ← atSeq_setSched, reschedule_ite, h]; rfl

theorem exec_setSched_next {i : Instr} {s t : State} (h : exec i s = .next t) (l : List Entry) :
    exec i (s.setSched l) = .next (t.setSched l) := by
  rw [exec_setSched, h]; rfl

theorem exec_sched {i : Instr} {s t : State} (h : exec i s = .next t) : t.sched = s.sched := by
  have h' := exec_setSched_next h s.sched
  rw [show s.setSched s.sched = s from rfl, h] at h'
  rw [Host.Outcome.next.inj h']; rfl

end Sys2Proof.Machine
end

