-- ==== Sys2Proof/Tests/Slice0.lean ====
section
/-! SUPPORT. Tests: the smoke test of WellFormed, the decoding of written-out words, the vectors of
`spec/95_test_vectors.md` (each test names its vector), and a witness for the hypotheses of each
statement. -/

namespace Sys2Proof.Tests

open Sys2Proof.Machine

/-! The smoke test: for each check a term it refuses, and one it accepts. -/

theorem test_wf_example : Config.ex.wf = true := by decide
theorem test_wf_width : { Config.ex with cntWidth := 0, tOne := 0 }.widthOk = false ∧
    { Config.ex with cntWidth := 0, tOne := 0 }.wf = false := by decide
theorem test_wf_threshold : { Config.ex with tOne := 256 }.thresholdOk = false ∧
    { Config.ex with tOne := 256 }.wf = false := by decide
theorem test_wf_period : { Config.ex with wdtPeriod := 0 }.periodOk = false ∧
    { Config.ex with wdtPeriod := 0 }.wf = false := by decide
theorem test_wf_speed : { Config.ex with speedReset := 101 }.speedOk = false ∧
    { Config.ex with speedReset := 101 }.wf = false := by decide
theorem test_wf_codes : { Config.ex with codeAcc := 0x00000011#32 }.codesOk = false ∧
    { Config.ex with codeAcc := 0x00000011#32 }.wf = false := by decide

/-- A pattern with the reserved code 11 on one channel. -/
def badPattern : DirPattern := { DirPattern.default with left := (0b10#2, 0b11#2) }

theorem test_wf_pattern : { Config.ex with dirPattern := badPattern }.patternOk = false ∧
    { Config.ex with dirPattern := badPattern }.wf = false := by decide
theorem test_wf_selector_canonical : (Selector.mk 0b01#2 0b000#3 0b001#3).canonical = false ∧
    (Selector.mk 0b01#2 0b000#3 0b001#3).wf = false := by decide
theorem test_wf_selector_used : (Selector.mk 0b11#2 0b101#3 0b000#3).sequencerUsed = false ∧
    (Selector.mk 0b11#2 0b101#3 0b000#3).wf = false := by decide
theorem test_wf_selector_action : (Selector.mk 0b11#2 0b000#3 0b001#3).actionPlaced = false ∧
    (Selector.mk 0b11#2 0b000#3 0b001#3).wf = false := by decide
theorem test_wf_selector_good : (Selector.mk 0b11#2 0b010#3 0b111#3).wf = true := by decide

/-! Decoding, on words written out from the opcode table and R59. -/

theorem test_decode_tick : decodeWord 0b00000000#8 = .ok .tick := rfl
theorem test_decode_irEdge : decodeWord 0b01000000#8 = .ok .irEdge := rfl
theorem test_decode_estopEdge : decodeWord 0b10000000#8 = .ok .estopEdge := rfl
theorem test_decode_boot : decodeWord 0b11111000#8 = .ok .boot := rfl
theorem test_decode_decode : decodeWord 0b11000000#8 = .ok .decode := rfl
theorem test_decode_dispatch : decodeWord 0b11001000#8 = .ok .dispatch := rfl
theorem test_decode_actStop : decodeWord 0b11010000#8 = .ok .actStop := rfl
theorem test_decode_actFwd : decodeWord 0b11010001#8 = .ok .actFwd := rfl
theorem test_decode_actBwd : decodeWord 0b11010010#8 = .ok .actBwd := rfl
theorem test_decode_actLeft : decodeWord 0b11010011#8 = .ok .actLeft := rfl
theorem test_decode_actRight : decodeWord 0b11010100#8 = .ok .actRight := rfl
theorem test_decode_actSpeedup : decodeWord 0b11010101#8 = .ok .actSpeedup := rfl
theorem test_decode_actSlowdown : decodeWord 0b11010110#8 = .ok .actSlowdown := rfl
theorem test_decode_actAccToggle : decodeWord 0b11010111#8 = .ok .actAccToggle := rfl
theorem test_decode_settle : decodeWord 0b11011000#8 = .ok .settle := rfl
theorem test_decode_non_canonical : decodeWord 0b00000001#8 = .error .nonCanonical ∧
    decodeWord 0b01001000#8 = .error .nonCanonical := ⟨rfl, rfl⟩
theorem test_decode_unused : decodeWord 0b11100000#8 = .error .unusedSequencer ∧
    decodeWord 0b11101000#8 = .error .unusedSequencer ∧
    decodeWord 0b11110000#8 = .error .unusedSequencer := ⟨rfl, rfl, rfl⟩
theorem test_decode_stray_action : decodeWord 0b11000001#8 = .error .strayAction := rfl
/-- WDT_OVF is TICK's word in a state at the end of the period (R59, R66). -/
theorem test_decode_wdtOvf_by_state :
    resolve { State.reset with wdtCnt := 255 } .tick = .wdtOvf ∧ resolve State.reset .tick = .tick :=
  ⟨rfl, rfl⟩
theorem test_table_word_length : decodeTableWord 16 0x40 = none ∧ decodeTableWord 8 0x140 = none := by
  decide

/-! States for the tests. -/

/-- The core after BOOT, in the configuration EX. -/
def booted : State := { State.reset with seq := Seq.idle, gie := true }

/-- `booted` with a complete frame of 34 equal samples. -/
def filled (v : Nat) : State := { booted with idx := 34#6, buf := Vector.replicate 34 v }

/-- `booted` with an action to carry out, driving forward at a speed. -/
def acting (a : Action) (v : Level) : State :=
  { booted with
    seq := Seq.act, action := a, speed := v
    dirA := Direction.forward, dirB := Direction.forward, pwmA := v, pwmB := v }

/-- `booted`, waiting n ticks to carry out a motion action. -/
def settling (a : Action) (n : Nat) : State :=
  { booted with seq := Seq.settle, action := a, settleCnt := n, speed := 40#8 }

/-- The state an operation leaves, and the state it started from where it stops. -/
def after (i : Instr) (s : State) : State :=
  match exec i s with
  | .next t => t
  | .fault _ | .refused _ => s

/-- The schedule's next step, in the same form. -/
def stepped (s : State) : State :=
  match step s with
  | .next t => t
  | .fault _ | .refused _ => s

/-! One step, from the vectors of `95_test_vectors.md`. -/

/-- C1. -/
theorem test_irEdge_stores :
    let t := after .irEdge { booted with idx := 5#6, edgeCnt := 42, wdtCnt := 42 }
    readSlot t.buf 5 = 42 ∧ t.idx = 6#6 ∧ t.edgeCnt = 0 ∧ t.wdtCnt = 0 := by decide
/-- C4 and C5. -/
theorem test_irEdge_full :
    let s := { filled 70 with edgeCnt := 12, wdtCnt := 12 }
    let o := { s with cfg := { Config.ex with fullPolicy := .overwriteLast } }
    readSlot (after .irEdge s).buf 33 = 70 ∧ readSlot (after .irEdge o).buf 33 = 12 ∧
      (after .irEdge o).idx = 34#6 ∧ (after .irEdge s).events = [.edgeLost 12] := by decide
/-- T1. -/
theorem test_tick_counts :
    let t := after .tick { settling .fwd 3 with edgeCnt := 254, wdtCnt := 254 }
    t.edgeCnt = 255 ∧ t.wdtCnt = 255 ∧ t.settleCnt = 2 := by decide
/-- T5: before BOOT the overflow clears the counter and no more. -/
theorem test_tick_overflow_before_boot :
    let t := after .tick { State.reset with wdtCnt := 255, edgeCnt := 255 }
    t.wdtCnt = 0 ∧ t.edgeCnt = 0 ∧ t.idx = 0#6 ∧ t.events = [] := by decide
/-- T3. -/
theorem test_wdtOvf_aborts :
    let t := after .wdtOvf { booted with idx := 33#6, edgeCnt := 255, wdtCnt := 255 }
    t.idx = 0#6 ∧ t.edgeCnt = 0 ∧ t.wdtCnt = 0 ∧ t.events = [.frameAbort 33] := by decide
/-- T4 and T2: a complete frame is discarded too, and an idle core emits nothing. -/
theorem test_wdtOvf_discards_complete_frame :
    (after .wdtOvf { filled 60 with wdtCnt := 255 }).events = [.frameAbort 34] ∧
      (after .wdtOvf { booted with wdtCnt := 255 }).events = [] := by decide
/-- E1. -/
theorem test_estopEdge_stops :
    let t := after .estopEdge { acting .fwd 60#8 with seq := Seq.idle }
    t.deEnergized = true ∧ t.estopLatch = true ∧ t.speed = 60#8 ∧ t.seq = Seq.idle ∧
      t.events = [.estop] := by decide
/-- E6. -/
theorem test_estopEdge_before_boot : (after .boot (after .estopEdge State.reset)).estopLatch = true := by
  decide
/-- B3. -/
theorem test_boot :
    let t := after .boot { State.reset with edgeCnt := 5, wdtCnt := 5 }
    t.seq = 0b000#3 ∧ t.gie = true ∧ t.edgeCnt = 0 ∧ t.wdtCnt = 0 := by decide
/-- D1 and D2: the threshold itself is a 0. -/
theorem test_decode_threshold :
    (after .decode (filled 50)).cmd = 0x00000000#32 ∧
      (after .decode (filled 51)).cmd = 0xFFFFFFFF#32 := by decide +kernel
/-- D4, and the rest of the row's effect. -/
theorem test_decode_first_slot_is_top_bit :
    let t := after .decode { filled 0 with buf := writeSlot (Vector.replicate 34 0) 2 51, estopLatch := true }
    t.cmd = 0x80000000#32 ∧ t.idx = 0#6 ∧ t.estopLatch = false ∧ t.seq = 0b001#3 := by decide +kernel
/-- X3. -/
theorem test_dispatch_known :
    let t := after .dispatch { booted with seq := Seq.dispatch, cmd := 0x00000033#32 }
    t.ports.actOut = 0b011#3 ∧ t.seq = 0b010#3 ∧ t.events = [.dispatched .left] := by decide
/-- X8. -/
theorem test_dispatch_unknown :
    let t := after .dispatch { booted with seq := Seq.dispatch, cmd := 0x00000010#32, action := .bwd }
    t.ports.actOut = 0b000#3 ∧ t.events = [.dispatched .stop, .unknownCmd 0x00000010#32] := by
  decide
/-- A5. -/
theorem test_actStop :
    let t := after .actStop { acting .stop 40#8 with acc := true }
    t.deEnergized = true ∧ t.seq = 0b000#3 ∧ t.speed = 40#8 ∧ t.acc = true := by decide
/-- A1. -/
theorem test_actFwd_settles :
    let t := after .actFwd (acting .fwd 50#8)
    t.deEnergized = true ∧ t.settleCnt = 20 ∧ t.seq = 0b011#3 ∧ t.speed = 50#8 := by decide
/-- A2. -/
theorem test_actBwd_settles :
    let t := after .actBwd (acting .bwd 50#8)
    t.deEnergized = true ∧ t.settleCnt = 20 ∧ t.seq = 0b011#3 := by decide
/-- A3. -/
theorem test_actLeft_settles :
    let t := after .actLeft (acting .left 0#8)
    t.deEnergized = true ∧ t.settleCnt = 20 ∧ t.seq = 0b011#3 := by decide
/-- A4. -/
theorem test_actRight_settles_at_once :
    let t := after .actRight { acting .right 50#8 with cfg := { Config.ex with tSettle := 0 } }
    t.deEnergized = true ∧ t.settleCnt = 0 ∧ t.seq = 0b011#3 := by decide
/-- A6 and A7. -/
theorem test_actSpeedup_saturates :
    (after .actSpeedup (acting .speedup 90#8)).pwmB = 100#8 ∧
      (after .actSpeedup (acting .speedup 100#8)).speed = 100#8 ∧
      (after .actSpeedup (acting .speedup 90#8)).dirA = 0b10#2 := by decide
/-- A14. -/
theorem test_actSpeedup_latched :
    let t := after .actSpeedup
      { booted with seq := Seq.act, action := .speedup, speed := 30#8, estopLatch := true }
    t.speed = 40#8 ∧ t.deEnergized = true := by decide
/-- A8 and A9. -/
theorem test_actSlowdown_saturates :
    (after .actSlowdown (acting .slowdown 10#8)).pwmA = 0#8 ∧
      (after .actSlowdown (acting .slowdown 0#8)).speed = 0#8 ∧
      (after .actSlowdown (acting .slowdown 10#8)).deEnergized = false := by decide
/-- A10. -/
theorem test_actAccToggle :
    let t := after .actAccToggle { acting .accToggle 0#8 with estopLatch := true }
    t.ports.accOut = true ∧ t.seq = 0b000#3 := by decide
/-- A11. -/
theorem test_settle_asserts :
    let t := after .settle (settling .left 0)
    t.dirA = 0b01#2 ∧ t.dirB = 0b10#2 ∧ t.pwmA = 40#8 ∧ t.pwmB = 40#8 ∧ t.seq = 0b000#3 := by decide
/-- A12 and A13. -/
theorem test_settle_latched_and_held :
    (after .settle { settling .fwd 0 with estopLatch := true }).deEnergized = true ∧
      after .settle (settling .fwd 5) = settling .fwd 5 := by decide

/-! The schedule: the trace lines of R61 and the instants of R102. -/

/-- Q1: the edge before the tick, so that the tick does not overflow. -/
theorem test_instant_edge_first :
    let s := { booted with
      idx := 20#6, edgeCnt := 255, wdtCnt := 255, sched := [.instant ⟨1, true, 0, 0⟩] }
    let t := stepped (stepped s)
    readSlot t.buf 20 = 255 ∧ t.idx = 21#6 ∧ t.edgeCnt = 1 ∧ t.sched = [] := by decide
/-- R61: from a hold `run` stands for no step, so the next line is the next step. -/
theorem test_run_of_a_hold_is_no_step :
    let t := stepped { booted with sched := [.run, .agent .estop] }
    t.estopLatch = true ∧ t.sched = [] := by decide
/-- P1's `run 3`, from a complete frame of an unknown code: three steps, and the next line follows. -/
theorem test_run_stands_for_three_steps :
    let u := stepped (stepped (stepped { filled 50 with sched := [.run, .agent .ir] }))
    u.action = .stop ∧ u.seq = Seq.idle ∧ (stepped u).idx = 1#6 ∧ (stepped u).sched = [] := by
  decide +kernel
/-- R62, R102: two edges and a tick in one instant: a sample of 0 for the second edge, then the tick. -/
theorem test_instant_two_edges :
    let s := { booted with edgeCnt := 9, wdtCnt := 9, sched := [.instant ⟨2, true, 0, 0⟩] }
    let t := stepped (stepped (stepped s))
    readSlot t.buf 0 = 9 ∧ readSlot t.buf 1 = 0 ∧ t.idx = 2#6 ∧ t.edgeCnt = 1 ∧ t.sched = [] := by decide
/-- A trace entry that does not agree with the state is refused (R59). -/
theorem test_step_disagrees :
    step { booted with sched := [.word 0b11111000#8] } = .refused .selectorDisagrees := rfl
/-- A word placed where the machine reads its next step is the step it takes, as the first after reset. -/
theorem test_withFetchWord_runs :
    (stepped (State.reset.withFetchWord 8 0xF8)).gie = true ∧
      (stepped (State.reset.withFetchWord 8 0xD8)).dirA = 0b10#2 := by decide

/-! Witnesses: for each statement with hypotheses, states and operands that meet them together, at the
boundaries of its clauses. -/

theorem inv_booted : Inv booted := by constructor <;> decide
theorem inv_filled : Inv (filled 60) := by constructor <;> decide
theorem inv_settling : Inv (settling .bwd 20) := by constructor <;> decide

theorem witness_ResetLeavesCoreStopped : Config.ex.wf = true := by decide

theorem witness_ResetMeetsInvariants :
    Config.ex.wf = true ∧
      ∀ k, k < 34 → readSlot (Vector.replicate 34 255) k < 2 ^ Config.ex.cntWidth := by decide

/-! An infinite run, in the configuration with one-tick watchdog period and one-bit samples: BOOT, then
ticks for ever, each an overflow of an idle watchdog. -/

/-- W = 1, P = 1. -/
def tinyConfig : Config := { Config.ex with cntWidth := 1, tOne := 0, wdtPeriod := 1 }

/-- The reset state of `tinyConfig`. -/
def tinyReset : State := State.resetWith tinyConfig (Vector.replicate 34 0) 0#32 false

/-- The two states the run alternates between. -/
def tinyIdle (e : Nat) : State := { tinyReset with seq := Seq.idle, gie := true, edgeCnt := e }

/-- The agents of the run. -/
def tinyAgents : Nat → Agent
  | 0 => .seq
  | _ + 1 => .clk

/-- The states of the run. -/
def tinyRun : Nat → State
  | 0 => tinyReset
  | n + 1 => tinyIdle (n % 2)

theorem tinyRun_steps : AgentRun tinyAgents tinyRun := by
  intro n
  match n with
  | 0 => exact ⟨.boot, rfl, rfl⟩
  | k + 1 =>
    refine ⟨.wdtOvf, rfl, ?_⟩
    rcases Nat.mod_two_eq_zero_or_one k with h | h
    · have h' : (k + 1) % 2 = 1 := by omega
      simp only [tinyRun, h, h']; rfl
    · have h' : (k + 1) % 2 = 0 := by omega
      simp only [tinyRun, h, h']; rfl

theorem tinyRun_seqFair : SeqFair tinyAgents tinyRun := fun n h =>
  absurd (h (n + 1) (Nat.le_succ n)) (by simp [tinyRun, tinyIdle, State.seqHolds, tinyReset, State.resetWith, nSlots])

theorem tinyRun_clkFair : ClkFair tinyAgents := fun n => ⟨n + 1, Nat.le_succ n, rfl⟩

theorem inv_tinyReset : Inv tinyReset := by constructor <;> decide

theorem witness_BootStartsCapture :
    State.reset.seq = Seq.boot ∧
      (∃ t, exec .tick State.reset = .next t ∧ t.seq = Seq.boot) ∧
      (AgentRun tinyAgents tinyRun ∧ SeqFair tinyAgents tinyRun ∧ (tinyRun 0).seq = Seq.boot) :=
  ⟨rfl, ⟨_, rfl, rfl⟩, tinyRun_steps, tinyRun_seqFair, rfl⟩

theorem witness_TickAdvancesCounters :
    { booted with wdtCnt := 254 }.wdtCnt ≠ 256 - 1 ∧
      { filled 60 with wdtCnt := 255 }.wdtCnt = (filled 60).cfg.wdtPeriod - 1 ∧
      { filled 60 with wdtCnt := 255 }.idx.toNat ≤ 34 := by decide

theorem witness_WatchdogOverflowAbandonsFrame :
    { filled 60 with wdtCnt := 255 }.wdtCnt = (filled 60).cfg.wdtPeriod - 1 ∧
      { filled 60 with wdtCnt := 255 }.idx.toNat ≤ 34 := by decide

theorem witness_EdgeCapturesOneSample :
    State.reset.gie = false ∧
      ({ booted with idx := 33#6 }.gie = true ∧ { booted with idx := 33#6 }.idx.toNat < 34) ∧
      ((filled 60).gie = true ∧ (filled 60).idx.toNat = 34 ∧ (filled 60).cfg.fullPolicy = .drop) ∧
      ({ filled 60 with cfg := { Config.ex with fullPolicy := .overwriteLast } }.idx.toNat = 34 ∧
        { filled 60 with cfg := { Config.ex with fullPolicy := .overwriteLast } }.gie = true ∧
        { Config.ex with fullPolicy := .overwriteLast }.fullPolicy = .overwriteLast) := by decide

theorem witness_TickRunOverflowsEveryPeriod : Inv booted := inv_booted

theorem witness_ShortGapsCaptureFrame :
    Inv booted ∧ booted.gie = true ∧ booted.idx = 0#6 ∧ (600 :: List.replicate 33 255).length = 34 ∧
      (∀ g ∈ (600 :: List.replicate 33 255).tail, g < booted.cfg.wdtPeriod) :=
  ⟨inv_booted, rfl, rfl, rfl, by decide⟩

theorem witness_LongGapRestartsFrame :
    Inv (filled 60) ∧ (filled 60).gie = true ∧ (filled 60).cfg.wdtPeriod ≤ (filled 60).wdtCnt + 256 :=
  ⟨inv_filled, rfl, by decide⟩

theorem witness_IdleTimeClearsPartialFrame :
    Inv (filled 60) ∧ (filled 60).gie = true ∧ (256 :: List.replicate 33 255).length = 34 ∧
      APeriod (filled 60).cfg 255 256 ∧ 256 ≤ (256 :: List.replicate 33 255).getD 0 0 ∧
      (∀ g ∈ (256 :: List.replicate 33 255).tail, g ≤ 255) :=
  ⟨inv_filled, rfl, rfl, ⟨by decide, by decide⟩, by decide, by decide⟩

theorem witness_CountersAgreeAtFullPeriod :
    let s := { booted with wdtCnt := 255, edgeCnt := 255, sched := [.agent .clk] }
    s.cfg.wdtPeriod = 2 ^ s.cfg.cntWidth ∧ s.wdtCnt = s.edgeCnt ∧ s.edgeCnt < 2 ^ s.cfg.cntWidth ∧
      ∃ t, step s = .next t :=
  ⟨by decide, rfl, by decide, _, rfl⟩

theorem witness_TransmissionDecodesToItsCommand :
    let s := { booted with sched := traceFrame 0x11#32 300 135 50 51 ++ [.run] }
    Inv s ∧ s.gie = true ∧ s.idx = 0#6 ∧ 135 < s.cfg.wdtPeriod ∧ 50 < s.cfg.wdtPeriod ∧
      51 < s.cfg.wdtPeriod ∧ 50 ≤ s.cfg.tOne ∧ s.cfg.tOne < 51 ∧ 51 < 2 ^ s.cfg.cntWidth ∧
      s.sched = traceFrame 0x11#32 300 135 50 51 ++ [.run] :=
  ⟨by constructor <;> decide, rfl, rfl, by decide, by decide, by decide, by decide, by decide,
    by decide, rfl⟩

/-- The frame of the command 1, sent with gaps of 50 and 51. -/
def frameOfOne : FrameBuffer := writeSlot (Vector.replicate 34 50) 33 51

theorem witness_ThresholdSeparatesTheBits :
    ∀ j, j < 32 → readSlot frameOfOne (33 - j) = if (1#32).getLsbD j then 51 else 50 := by
  decide

theorem witness_DecodeTakesCompleteFrame :
    (filled 50).seq = Seq.idle ∧ (filled 50).idx.toNat = 34 := by decide

theorem witness_IdleSequencerHolds :
    let s := { booted with idx := 33#6 }
    let f := { filled 60 with wdtCnt := 255 }
    s.seq = Seq.idle ∧ s.idx.toNat < 34 ∧ s.idx.toNat = 33 ∧ s.gie = true ∧
      f.seq = Seq.idle ∧ f.idx.toNat = 34 ∧ f.gie = true ∧ f.wdtCnt = f.cfg.wdtPeriod - 1 := by decide

theorem witness_CompleteFrameIsDecodedOnce :
    (Inv (filled 60) ∧ (filled 60).idx.toNat = 34 ∧ ∃ t, exec .decode (filled 60) = .next t) ∧
      (∃ is t, Path is booted t ∧ booted.idx = 0#6 ∧ t.idx.toNat = 34) := by
  obtain ⟨t, hp, ht⟩ := edges_path 34 booted rfl (by decide)
  exact ⟨⟨inv_filled, by decide, _, rfl⟩, _, t, hp, rfl, ht⟩

theorem witness_DispatchSelectsAction : { booted with seq := Seq.dispatch }.seq = Seq.dispatch := rfl

theorem witness_LookupIsExactMatch : Config.ex.wf = true := by decide

theorem witness_MotionEntryDeEnergizes :
    (acting .fwd 50#8).seq = Seq.act ∧ (acting .fwd 50#8).action = .fwd ∧
      (acting .bwd 50#8).action = .bwd ∧ (acting .left 50#8).action = .left ∧
      (acting .right 50#8).action = .right := by decide

theorem witness_StopDeEnergizes :
    (acting .stop 50#8).seq = Seq.act ∧ (acting .stop 50#8).action = .stop := by decide

theorem witness_SpeedUpSaturates :
    (acting .speedup 100#8).seq = Seq.act ∧ (acting .speedup 100#8).action = .speedup := by decide

theorem witness_SlowDownSaturates :
    (acting .slowdown 0#8).seq = Seq.act ∧ (acting .slowdown 0#8).action = .slowdown := by decide

theorem witness_AccessoryToggles :
    (acting .accToggle 0#8).seq = Seq.act ∧ (acting .accToggle 0#8).action = .accToggle := by decide

theorem witness_SettleCompletesMotion :
    (settling .fwd 1).seq = Seq.settle ∧ 0 < (settling .fwd 1).settleCnt ∧
      (settling .fwd 0).settleCnt = 0 ∧ { settling .fwd 0 with estopLatch := true }.estopLatch = true ∧
      (settling .right 0).estopLatch = false ∧ (settling .right 0).action = .right ∧
      (Action.right, (0b10#2, 0b01#2)) ∈ [(Action.fwd, Config.ex.dirPattern.fwd),
        (Action.bwd, Config.ex.dirPattern.bwd), (Action.left, Config.ex.dirPattern.left),
        (Action.right, Config.ex.dirPattern.right)] := by decide

theorem witness_SettlingSequencerHolds :
    (settling .fwd 1).seq = Seq.settle ∧ 0 < (settling .fwd 1).settleCnt ∧
      (settling .fwd 1).wdtCnt ≠ (settling .fwd 1).cfg.wdtPeriod - 1 := by decide

theorem witness_SpeedRunsSaturate :
    Config.ex.wf = true ∧
      (∃ t, Path [.actSpeedup] (acting .speedup 100#8) t) ∧ (acting .speedup 100#8).speed.toNat ≤ 100 ∧
      (∃ t, Path [.actSlowdown] (acting .slowdown 0#8) t) ∧ (acting .slowdown 0#8).speed.toNat ≤ 100 ∧
      .actSlowdown ∉ [Instr.actSpeedup] ∧ .actSpeedup ∉ [Instr.actSlowdown] :=
  ⟨by decide, ⟨_, .one rfl rfl⟩, by decide, ⟨_, .one rfl rfl⟩, by decide, by decide, by decide⟩

theorem witness_NoDirectReversal :
    (Inv (settling .bwd 20) ∧ (settling .bwd 20).seq = Seq.settle ∧
      ∃ t, exec .tick (settling .bwd 20) = .next t) ∧
      (∃ t, exec .settle (settling .bwd 0) = .next t ∧ t.dirA ≠ (settling .bwd 0).dirA ∧
        t.dirA ≠ 0b00#2) :=
  ⟨⟨inv_settling, rfl, _, rfl⟩, _, rfl, by decide, by decide⟩

theorem witness_SettlingDelayIsKept :
    (∃ t, Path [.tick] (settling .fwd 2) t) ∧ (settling .fwd 2).seq = Seq.settle ∧
      (settling .fwd 2).deEnergized = true ∧ ticksIn [.tick] < (settling .fwd 2).settleCnt :=
  ⟨⟨_, .one rfl rfl⟩, rfl, by decide, by decide⟩

/-- A stopped core with the latch set, the clock's tick next. -/
def latched : State := { filled 60 with estopLatch := true, sched := [.agent .clk] }

theorem witness_LatchMeansDeEnergized :
    (latched.estopLatch = true → latched.deEnergized = true) ∧
      ∃ t, step latched = .next t ∧ t.estopLatch = true :=
  ⟨fun _ => by decide, _, rfl, rfl⟩

theorem witness_LatchReleasedOnlyByDecode :
    (∃ t, exec .decode latched = .next t ∧ latched.estopLatch = true ∧ t.estopLatch = false) ∧
      (latched.seq = Seq.idle ∧ latched.idx.toNat = 34 ∧ latched.cfg.estopRelease = .nextDecode) ∧
      (∃ t, Path [.decode] { latched with cfg := { Config.ex with estopRelease := .never } } t) ∧
      { Config.ex with estopRelease := .never }.estopRelease = .never ∧ latched.deEnergized = true :=
  ⟨⟨_, rfl, rfl, rfl⟩, ⟨rfl, by decide, rfl⟩, ⟨_, .one rfl rfl⟩, rfl, by decide⟩

theorem witness_EstopOverridesCommandInProgress :
    ∃ u t, exec .estopEdge (settling .fwd 0) = .next u ∧ Path [.settle] u t ∧
      .decode ∉ [Instr.settle] :=
  ⟨_, _, rfl, .one rfl rfl, by decide⟩

theorem witness_EstopCommutesWithCapture :
    ∃ u v w x, exec .estopEdge booted = .next u ∧ exec .tick booted = .next v ∧
      exec .wdtOvf { booted with wdtCnt := 255 } = .next w ∧ exec .irEdge booted = .next x :=
  ⟨_, _, _, _, rfl, rfl, rfl, rfl⟩

theorem witness_ReactionsLeaveSequencer :
    Instr.irEdge.agent ≠ .seq ∧ Instr.tick.agent = .clk ∧ ∃ t u,
      exec .irEdge (settling .fwd 9) = .next t ∧ exec .tick (settling .fwd 9) = .next u :=
  ⟨by decide, rfl, _, _, rfl, rfl⟩

theorem witness_EnableGatesCapture :
    (∃ t, exec .boot State.reset = .next t) ∧ State.reset.gie = false ∧
      (∃ t, exec .wdtOvf { State.reset with wdtCnt := 255 } = .next t) ∧
      (∃ t, exec .tick State.reset = .next t) :=
  ⟨⟨_, rfl⟩, rfl, ⟨_, rfl⟩, ⟨_, rfl⟩⟩

theorem witness_RegistersHaveOnlyTheirWriters :
    ∃ t, exec .irEdge booted = .next t ∧ t.idx ≠ booted.idx := ⟨_, rfl, by decide⟩

theorem witness_CompareValuesFollowSpeed :
    ∃ t, exec .settle (settling .fwd 0) = .next t ∧ t.pwmA ≠ (settling .fwd 0).pwmA :=
  ⟨_, rfl, by decide⟩

theorem witness_EventsAreTheTables :
    ∃ t, exec .wdtOvf { filled 60 with wdtCnt := 255 } = .next t ∧ .frameAbort 34 ∈ t.events :=
  ⟨_, rfl, by decide⟩

theorem witness_DrainedRunsLoseNoEdge : AgentRun tinyAgents tinyRun ∧ ADrain tinyAgents tinyRun := by
  refine ⟨tinyRun_steps, fun n h => ?_⟩
  match n with
  | 0 => cases h
  | _ + 1 => cases h

/-- A run of emergency stops, over a complete frame that waits. -/
def stopRun (n : Nat) : State :=
  { filled 60 with estopLatch := true, events := List.replicate n .estop }

theorem stopRun_steps : AgentRun (fun _ => .estop) stopRun := fun n =>
  ⟨.estopEdge, rfl, by
    show execEstopEdge (stopRun n) = .next (stopRun (n + 1))
    simp only [stopRun, List.replicate_succ']; rfl⟩

theorem witness_PromptSequencerKeepsFrame :
    AgentRun (fun _ => .estop) stopRun ∧ LSeq 255 (fun _ => .estop) stopRun ∧
      (stopRun 0).seq = Seq.idle ∧ (stopRun 0).idx.toNat = 34 ∧
      (stopRun 0).wdtCnt + 255 < (stopRun 0).cfg.wdtPeriod ∧
      (∀ k, 0 ≤ k → k < 1 → Agent.estop ≠ .seq) :=
  ⟨stopRun_steps, fun _ _ _ _ => by simp [ticksBetween], rfl, by decide, by decide, fun _ _ _ => by decide⟩

/-- The hypotheses of its clauses on what the buffer keeps, in the same run. -/
theorem witness_PromptSequencerKeepsFrame_buffer :
    (stopRun 0).cfg.fullPolicy = .drop ∧ ADrain (fun _ => .estop) stopRun :=
  ⟨rfl, fun _ h => by cases h⟩

/-- An unknown code to dispatch, which `run` carries out in two steps. -/
def lineRun (l : List Entry) : State := { booted with seq := Seq.dispatch, sched := l }

theorem witness_RunIsSeqUntilHold :
    (lineRun []).cfg.wf = true ∧
      (∀ k, k < 2 → ∃ u, Host.Core.run Sys2Proof.core k (lineRun (traceSeq 2 ++ [.agent .ir])) = .next u ∧
        State.seqHolds u = false) ∧
      ∃ t, Host.Core.run Sys2Proof.core 2 (lineRun (traceSeq 2 ++ [.agent .ir])) = .next t ∧
        State.seqHolds t = true := by
  refine ⟨by decide, fun k hk => ?_, _, rfl, rfl⟩
  match k with
  | 0 => exact ⟨_, rfl, rfl⟩
  | 1 => exact ⟨_, rfl, rfl⟩
  | _ + 2 => omega

theorem witness_EveryAgentCanStep : Inv (settling .bwd 20) := inv_settling

theorem witness_InstantStepsInOrder :
    let s := { booted with sched := [.instant ⟨2, true, 1, 1⟩] }
    s.cfg.wf = true ∧ Seq.legal s.seq = true ∧ s.sched = .instant ⟨2, true, 1, 1⟩ :: [] ∧
      instantMembers ⟨2, true, 1, 1⟩ ≠ [] := by decide

theorem witness_EdgeIsTakenBeforeTick :
    let s := { booted with
      idx := 33#6, edgeCnt := 255, wdtCnt := 255, sched := [.instant ⟨1, true, 0, 0⟩] }
    s.cfg.wf = true ∧ s.cfg.simulOrder = .fixed ∧ 2 ≤ s.cfg.wdtPeriod ∧ s.gie = true ∧ s.idx.toNat < 34 ∧
      s.sched = .instant ⟨1, true, 0, 0⟩ :: [] := by decide

theorem witness_EncodeAndDecodeAgree :
    Instr.tick ≠ .wdtOvf ∧ decodeWord 0b11010111#8 = .ok .actAccToggle := ⟨by decide, rfl⟩

theorem witness_SelectorsOfNoStepAreRefused :
    { booted with sched := [.word 0b10000001#8] }.cfg.wf = true ∧
      (Selector.ofWord 0b10000001#8).step ≠ 0b11#2 ∧ (Selector.ofWord 0b10000001#8).ac ≠ 0#3 ∧
      (Selector.ofWord 0b11110000#8).step = 0b11#2 ∧ (Selector.ofWord 0b11110000#8).sq = 0b110#3 := by
  decide

theorem witness_SelectorLabelsTheStep : Seq.legal (acting .speedup 0#8).seq = true := by decide

theorem witness_DisagreeingSelectorIsRefused :
    let s := { acting .fwd 50#8 with sched := [.word 0b11010010#8] }
    let x := Selector.ofWord 0b11000001#8
    (s.cfg.wf = true ∧ Seq.legal s.seq = true ∧ s.sched = .word 0b11010010#8 :: [] ∧
      (Selector.ofWord 0b11010010#8).step = 0b11#2 ∧
      Seq.legal (Selector.ofWord 0b11010010#8).sq = true ∧
      Selector.ofWord 0b11010010#8 ≠ selectorOf .seq s ∧ decodeWord 0b11010010#8 = .ok .actBwd) ∧
    (x.step = 0b11#2 ∧ Seq.legal x.sq = true ∧ x.sq ≠ 0b010#3 ∧ x.ac ≠ 0#3 ∧
      decodeWord 0b11000001#8 = .error .strayAction ∧
      { booted with sched := [.word 0b11000001#8] }.sched = .word 0b11000001#8 :: []) :=
  ⟨⟨by decide, by decide, rfl, by decide, by decide, by decide, rfl⟩,
    by decide, by decide, by decide, by decide, rfl, rfl⟩

theorem witness_UnreachableCodesFault :
    Instr.boot.agent = .seq ∧ Seq.legal 0b100#3 = false ∧ Seq.legal 0b110#3 = false ∧
      34 < { booted with idx := 35#6 }.idx.toNat ∧
      { booted with idx := 35#6, wdtCnt := 255 }.wdtCnt = booted.cfg.wdtPeriod - 1 ∧
      { booted with idx := 35#6 }.gie = true ∧ { booted with idx := 35#6 }.seq = Seq.idle := by decide

theorem witness_SequencerPerformsItsState :
    State.reset.seq = 0b111#3 ∧ booted.seq = 0b000#3 ∧
      { booted with seq := Seq.dispatch }.seq = 0b001#3 ∧ (acting .stop 0#8).seq = 0b010#3 ∧
      (settling .fwd 0).seq = 0b011#3 := by decide

theorem witness_SequencerMovesAlongGraph :
    ∃ t, exec .actFwd (acting .fwd 50#8) = .next t ∧ t.seq ≠ (acting .fwd 50#8).seq :=
  ⟨_, rfl, by decide⟩

theorem witness_IllFormedConfigurationIsRefused :
    { booted with cfg := { Config.ex with wdtPeriod := 0 } }.cfg.wf = false := by decide

theorem witness_StepRunsScheduledOperation :
    booted.cfg.wf = true ∧ decodeWord 0b01000000#8 = .ok .irEdge ∧
      { booted with sched := [.word 0b01000000#8] }.sched = .word 0b01000000#8 :: [] ∧
      agentInstr .clk { booted with sched := [.agent .clk] } = some .tick ∧
      ({ filled 60 with sched := [.run] }.seqHolds = false ∧
        agentInstr .seq { filled 60 with sched := [.run] } = some .decode) ∧
      { booted with sched := [.run] }.seqHolds = true ∧ instantMembers ⟨0, false, 0, 0⟩ = [] ∧
      booted.sched = [] :=
  ⟨by decide, rfl, rfl, rfl, ⟨rfl, rfl⟩, rfl, rfl, rfl⟩

theorem witness_StepKeepsInvariants :
    Inv booted ∧ ∃ t, step { booted with sched := [.agent .ir] } = .next t := ⟨inv_booted, _, rfl⟩

theorem witness_CompleteFrameIsCarriedOut :
    Inv (filled 60) ∧ (filled 60).seq = Seq.idle ∧ (filled 60).idx.toNat = 34 :=
  ⟨inv_filled, rfl, by decide⟩

theorem witness_FairRunsReturnToIdle :
    Inv (tinyRun 0) ∧ AgentRun tinyAgents tinyRun ∧ ClkFair tinyAgents ∧ SeqFair tinyAgents tinyRun :=
  ⟨inv_tinyReset, tinyRun_steps, tinyRun_clkFair, tinyRun_seqFair⟩

end Sys2Proof.Tests
end

section
/-! R7: the configurations with a machine. `Laws/Config.lean` reads the clauses off the check; here is the
way back, from the clauses to the check, and what a step does where the check fails. -/

namespace Sys2Proof

variable {c : Config}

/-- The converse of `Config.wf_pattern` (R7 (g)). -/
theorem Config.patternOk_of_no_reserved
    (h : ∀ p ∈ [c.dirPattern.fwd, c.dirPattern.bwd, c.dirPattern.left, c.dirPattern.right],
      p.1 ≠ Direction.reserved ∧ p.2 ≠ Direction.reserved) :
    c.patternOk = true := by
  have hpair : ∀ p ∈ [c.dirPattern.fwd, c.dirPattern.bwd, c.dirPattern.left, c.dirPattern.right],
      Direction.pairOk p = true := fun p hp => by
    simpa [Direction.pairOk] using h p hp
  simp [Config.patternOk, hpair]

/-- The upper half of R7 (d) is all that a configuration can break: the other bounds are on constants. -/
theorem Config.speedOk_of_le (h : c.speedReset ≤ 100) : c.speedOk = true :=
  decide_eq_true ⟨Nat.zero_le _, h, by decide⟩

/-- R7 (a) to (g) as the check's exact content; (e) is about a constant. -/
theorem Config.wf_iff :
    c.wf = true ↔
      1 ≤ c.cntWidth ∧ c.tOne < 2 ^ c.cntWidth ∧ 1 ≤ c.wdtPeriod ∧ c.speedReset ≤ 100 ∧
        c.codes.Nodup ∧
        (∀ p ∈ [c.dirPattern.fwd, c.dirPattern.bwd, c.dirPattern.left, c.dirPattern.right],
          p.1 ≠ Direction.reserved ∧ p.2 ≠ Direction.reserved) := by
  constructor
  · intro h
    exact ⟨Config.wf_width h, Config.wf_threshold h, Config.wf_period h, Config.wf_speed h,
      Config.wf_codes h, Config.wf_pattern h⟩
  · rintro ⟨hwidth, hthreshold, hperiod, hspeed, hcodes, hpattern⟩
    have hstep : c.stepOk = true := rfl
    simp [Config.wf, Config.widthOk, Config.thresholdOk, Config.periodOk, Config.codesOk,
      hwidth, hthreshold, hperiod, hcodes, hstep, Config.speedOk_of_le hspeed,
      Config.patternOk_of_no_reserved hpattern]

end Sys2Proof

namespace Sys2Proof.Machine

/-- The refusal of R7 comes before the schedule is read. -/
theorem fetch_of_wf_false {s : State} (h : s.cfg.wf = false) :
    fetch s = .refused .configIllFormed := by
  simp [fetch, h]

theorem step_of_wf_false {s : State} (h : s.cfg.wf = false) :
    step s = .refused .configIllFormed := by
  simp [step, fetch_of_wf_false h]

/-- Settles O53, from the check's exact content and the refusal of `fetch`. -/
theorem illFormedConfigurationIsRefused : Obligations.IllFormedConfigurationIsRefused :=
  ⟨fun _ => Config.wf_iff, fun _ => step_of_wf_false⟩

end Sys2Proof.Machine
end

section
/-! SUPPORT. The tick and the edge (`41_capture.md` R62 to R66), one equation for each case the rules tell
apart: the `_next` lemmas of `Laws/Exec.lean` read from the answer back, these from the state on. -/

namespace Sys2Proof.Machine

variable {s : State}

/-- R65: "if SETTLE_CNT > 0: SETTLE_CNT <- SETTLE_CNT - 1" is the truncated subtraction of the model. -/
theorem settleCnt_countDown (n : Nat) : (if n > 0 then n - 1 else n) = n - 1 := by
  split <;> omega

theorem exec_tick_of_not_expires (h : s.wdtCnt ≠ s.cfg.wdtPeriod - 1) :
    exec .tick s = .next (s.countTick.setWdt (s.wdtCnt + 1)) :=
  if_neg fun he => h ((wdtExpires_iff s).1 he)

theorem exec_tick_of_expires (h : s.wdtCnt = s.cfg.wdtPeriod - 1) : exec .tick s = overflowTick s :=
  if_pos ((wdtExpires_iff s).2 h)

theorem exec_wdtOvf_of_expires (h : s.wdtCnt = s.cfg.wdtPeriod - 1) :
    exec .wdtOvf s = overflowTick s :=
  if_pos ((wdtExpires_iff s).2 h)

/-- `overflowTick_eq` where `IDX` is in its range, with the event appended only where one is emitted. -/
theorem overflowTick_of_idx_le (h : s.idx.toNat ≤ 34) : overflowTick s = .next
    { s with
      edgeCnt := (s.edgeCnt + 1) % 2 ^ s.cfg.cntWidth
      settleCnt := s.settleCnt - 1
      wdtCnt := 0
      idx := if s.gie then 0#6 else s.idx
      events := if s.gie = true ∧ s.idx.toNat > 0
        then s.events ++ [.frameAbort s.idx.toNat] else s.events } := by
  have hevents :
      (s.events ++ if s.gie = true ∧ 0 < s.idx.toNat then [.frameAbort s.idx.toNat] else []) =
      if s.gie = true ∧ s.idx.toNat > 0 then s.events ++ [.frameAbort s.idx.toNat] else s.events := by
    split
    · rfl
    · exact List.append_nil _
  rw [overflowTick_eq s fun _ => h, hevents]

/-- R64: an edge while the events are off is no step of the pipeline. -/
theorem exec_irEdge_of_disabled (h : s.gie = false) : exec .irEdge s = .next s :=
  if_neg (by simp [h])

/-- R63: an edge at a full buffer. -/
theorem exec_irEdge_of_full (hg : s.gie = true) (hi : s.idx.toNat = 34) :
    exec .irEdge s = .next (loseSample s) := by
  change execIrEdge s = _
  simp [execIrEdge, nSlots, hg, hi]

theorem storeSample_idx_toNat (h : s.idx.toNat < 34) :
    (storeSample s).idx.toNat = s.idx.toNat + 1 := by
  have hidx : (storeSample s).idx = s.idx + 1#6 := rfl
  rw [hidx]
  bv_omega

theorem storeSample_buf (s : State) :
    (storeSample s).buf = writeSlot s.buf s.idx.toNat s.edgeCnt := rfl

/-- R62: an accepted edge with room writes one slot, the index and the two timers. -/
theorem storeSample_frame (s : State) : storeSample s =
    { s with buf := (storeSample s).buf, idx := (storeSample s).idx, edgeCnt := 0, wdtCnt := 0 } := rfl

/-- Settles O4: off the end of the period the tick counts, at the end it overflows. -/
theorem tickAdvancesCounters : Obligations.TickAdvancesCounters := by
  refine ⟨rfl, fun s => ⟨fun hne => ?counting, fun heq hidx => ?overflowing⟩⟩
  case counting =>
    rw [exec_tick_of_not_expires hne, settleCnt_countDown]
    rfl
  case overflowing =>
    rw [exec_tick_of_expires heq, overflowTick_of_idx_le hidx, settleCnt_countDown]

/-- Settles O5: WDT_OVF at the end of the period is the whole overflowing tick. -/
theorem watchdogOverflowAbandonsFrame : Obligations.WatchdogOverflowAbandonsFrame :=
  ⟨rfl, fun _ heq hidx => (exec_wdtOvf_of_expires heq).trans (overflowTick_of_idx_le hidx)⟩

/-- Settles O6: the four cases of R62 to R64; the slots follow from the two laws of `writeSlot`. -/
theorem edgeCapturesOneSample : Obligations.EdgeCapturesOneSample := by
  refine ⟨rfl, fun s => ⟨exec_irEdge_of_disabled, fun hg hi => ?room, fun hg hi hp => ?drop,
    fun hg hi hp => ?overwrite⟩⟩
  case room =>
    refine ⟨storeSample s, execIrEdge_stores hg hi, ?_, fun k hk => ?_, storeSample_idx_toNat hi,
      storeSample_frame s⟩
    · rw [storeSample_buf, readSlot_writeSlot_same _ _ _ hi]
    · rw [storeSample_buf, readSlot_writeSlot_other _ _ _ _ hk]
  case drop =>
    have hkeep : ¬ FullPolicy.drop = .overwriteLast := by decide
    rw [exec_irEdge_of_full hg hi, loseSample_eq, hp, if_neg hkeep]
  case overwrite =>
    refine ⟨_, exec_irEdge_of_full hg hi, ?_⟩
    rw [loseSample_eq, if_pos hp]
    exact ⟨readSlot_writeSlot_same _ _ _ (by decide),
      fun k hk => readSlot_writeSlot_other _ _ _ _ hk, rfl⟩

end Sys2Proof.Machine
end

section
/-! R71: the watchdog at the full period. What each operation does to the two timers, and that none writes
the configuration; the rest is arithmetic modulo 2^W. -/

namespace Sys2Proof.Machine

variable {s t : State}

/-- The configuration is a parameter (assumption log 1). -/
theorem exec_cfg {i : Instr} (h : exec i s = .next t) : t.cfg = s.cfg := by
  obtain ⟨-, -, rfl⟩ | ⟨-, -, -, rfl⟩ | ⟨-, -, rfl⟩ | ⟨-, -, -, rfl⟩ | ⟨-, -, -, rfl⟩ | ⟨-, rfl⟩ |
    ⟨-, -, rfl⟩ | ⟨-, -, -, rfl⟩ | ⟨-, -, -, rfl⟩ | ⟨-, -, rfl⟩ | ⟨-, -, -, rfl⟩ | ⟨-, -, -, rfl⟩ |
    ⟨-, -, -, rfl⟩ | ⟨-, -, -, rfl⟩ | ⟨-, -, -, rfl⟩ | ⟨-, -, -, rfl⟩ | ⟨-, -, -, -, rfl⟩ |
    ⟨-, -, -, -, -, -, rfl⟩ := exec_next h
  all_goals simp [storeSample, applySpeed_eq]

theorem step_cfg (h : step s = .next t) : t.cfg = s.cfg :=
  step_keeps (P := fun u => u.cfg = s.cfg)
    (fun _ _ hcore hu => (congrArg State.cfg hcore).trans hu)
    (fun _ _ _ hu he => (exec_cfg he).trans hu) rfl h

/-- R71: the two timers count together, are cleared together, or stay. -/
theorem exec_timers {i : Instr} (h : exec i s = .next t) :
    (i.agent = .clk ∧ t.edgeCnt = (s.edgeCnt + 1) % 2 ^ s.cfg.cntWidth ∧
      t.wdtCnt = if s.wdtExpires then 0 else s.wdtCnt + 1) ∨
    ((i = .boot ∨ i = .irEdge ∧ s.gie = true) ∧ t.edgeCnt = 0 ∧ t.wdtCnt = 0) ∨
    (t.edgeCnt = s.edgeCnt ∧ t.wdtCnt = s.wdtCnt) := by
  obtain ⟨rfl, hne, rfl⟩ | ⟨hi, heq, -, rfl⟩ | ⟨-, -, rfl⟩ | ⟨rfl, hg, -, rfl⟩ | ⟨rfl, hg, -, rfl⟩ |
    ⟨-, rfl⟩ | ⟨rfl, -, rfl⟩ | ⟨-, -, -, rfl⟩ | ⟨-, -, -, rfl⟩ | ⟨-, -, rfl⟩ | ⟨-, -, -, rfl⟩ |
    ⟨-, -, -, rfl⟩ | ⟨-, -, -, rfl⟩ | ⟨-, -, -, rfl⟩ | ⟨-, -, -, rfl⟩ | ⟨-, -, -, rfl⟩ |
    ⟨-, -, -, -, rfl⟩ | ⟨-, -, -, -, -, -, rfl⟩ := exec_next h
  · exact .inl ⟨rfl, rfl, by simp [wdtExpires_iff, hne]⟩
  · have hagent : i.agent = .clk := by obtain rfl | rfl := hi <;> rfl
    exact .inl ⟨hagent, rfl, by simp [wdtExpires_iff, heq]⟩
  · exact .inr (.inr ⟨rfl, rfl⟩)
  · exact .inr (.inl ⟨.inr ⟨rfl, hg⟩, rfl, rfl⟩)
  · exact .inr (.inl ⟨.inr ⟨rfl, hg⟩, rfl, rfl⟩)
  · exact .inr (.inr ⟨rfl, rfl⟩)
  · exact .inr (.inl ⟨.inl rfl, rfl, rfl⟩)
  all_goals exact .inr (.inr (by simp [applySpeed_eq]))

/-- At the full period the watchdog is the edge timer itself (R71). -/
structure TimersAgree (s : State) : Prop where
  full : s.cfg.wdtPeriod = 2 ^ s.cfg.cntWidth
  agree : s.wdtCnt = s.edgeCnt
  inWidth : s.edgeCnt < 2 ^ s.cfg.cntWidth

/-- A counter in its width wraps exactly from its last value. -/
theorem succ_mod_eq_zero_iff {n m : Nat} (h : n < m) : (n + 1) % m = 0 ↔ n = m - 1 := by
  obtain hlt | heq : n + 1 < m ∨ n + 1 = m := by omega
  · rw [Nat.mod_eq_of_lt hlt]
    omega
  · rw [heq, Nat.mod_self]
    omega

theorem TimersAgree.expires_iff (h : TimersAgree s) :
    s.wdtExpires = true ↔ (s.edgeCnt + 1) % 2 ^ s.cfg.cntWidth = 0 := by
  rw [wdtExpires_iff, h.agree, h.full, succ_mod_eq_zero_iff h.inWidth]

theorem TimersAgree.of_sameCore {s' : State} (hcore : SameCore s s') (h : TimersAgree s) :
    TimersAgree s' := by
  rw [hcore]
  exact ⟨h.full, h.agree, h.inWidth⟩

/-- A tick that does not overflow does not wrap, so both timers go one up. -/
theorem TimersAgree.tick (h : TimersAgree s) :
    (if s.wdtExpires then 0 else s.wdtCnt + 1) = (s.edgeCnt + 1) % 2 ^ s.cfg.cntWidth := by
  split
  case isTrue hexp => exact (h.expires_iff.1 hexp).symm
  case isFalse hexp =>
    have hlast : s.edgeCnt ≠ 2 ^ s.cfg.cntWidth - 1 := fun hl =>
      hexp (h.expires_iff.2 ((succ_mod_eq_zero_iff h.inWidth).2 hl))
    have hlt := h.inWidth
    rw [h.agree, Nat.mod_eq_of_lt (by omega)]

theorem TimersAgree.exec {i : Instr} (h : TimersAgree s) (he : exec i s = .next t) :
    TimersAgree t := by
  have hcfg := exec_cfg he
  have hpos : 0 < 2 ^ s.cfg.cntWidth := Nat.two_pow_pos _
  have hfull : t.cfg.wdtPeriod = 2 ^ t.cfg.cntWidth := by rw [hcfg, h.full]
  obtain ⟨-, hedge, hwdt⟩ | ⟨-, hedge, hwdt⟩ | ⟨hedge, hwdt⟩ := exec_timers he
  · exact ⟨hfull, by rw [hwdt, hedge, h.tick], by rw [hedge, hcfg]; exact Nat.mod_lt _ hpos⟩
  · exact ⟨hfull, by rw [hwdt, hedge], by rw [hedge, hcfg]; exact hpos⟩
  · exact ⟨hfull, by rw [hwdt, hedge, h.agree], by rw [hedge, hcfg]; exact h.inWidth⟩

/-- Settles O11: both timers are 0 at reset, `TimersAgree` is kept by every operation and so by every step,
and the watchdog's last count is the edge timer's. -/
theorem countersAgreeAtFullPeriod : Obligations.CountersAgreeAtFullPeriod := by
  refine ⟨fun _ _ _ _ => rfl, fun s t hfull hagree hlt hstep => ?kept,
    fun s hfull hagree hlt => TimersAgree.expires_iff ⟨hfull, hagree, hlt⟩⟩
  have ht : TimersAgree t :=
    step_keeps (fun _ _ => TimersAgree.of_sameCore) (fun _ _ _ => TimersAgree.exec)
      ⟨hfull, hagree, hlt⟩ hstep
  exact ⟨step_cfg hstep, ht.agree, ht.inWidth⟩

end Sys2Proof.Machine
end

section
/-! The decoder's loop (`42_decode.md` R73 to R75): one iteration shifts one bit in from the right, so the
bits of the accumulator are those of the slots read last, and its value is their sum by weight. -/

namespace Sys2Proof.Machine

variable {s : State} (c : Config) (b : FrameBuffer)

/-- R73: doubling modulo 2^32 and adding the bit is the shift register's step. -/
theorem shiftIn_eq_shiftConcat (acc : Command) (x : Nat) :
    shiftIn c b acc x = acc.shiftConcat (sampleBit c (readSlot b x)) := by
  apply BitVec.eq_of_toNat_eq
  rw [BitVec.toNat_shiftConcat, Nat.shiftLeft_eq]
  cases h : sampleBit c (readSlot b x) <;> simp [shiftIn, h]

theorem foldl_shiftIn_succ (acc : Command) (x n : Nat) :
    (List.range' x (n + 1)).foldl (shiftIn c b) acc =
      ((List.range' x n).foldl (shiftIn c b) acc).shiftConcat (sampleBit c (readSlot b (x + n))) := by
  rw [List.range'_1_concat, List.foldl_append, List.foldl_cons, List.foldl_nil,
    shiftIn_eq_shiftConcat]

/-- After n slots from x on, bit j below n is that of the slot read j before the last; the bits above are
the initial accumulator's, shifted. -/
theorem getLsbD_foldl_shiftIn (acc : Command) (x n j : Nat) (hj : j < 32) :
    ((List.range' x n).foldl (shiftIn c b) acc).getLsbD j =
      if j < n then sampleBit c (readSlot b (x + (n - 1 - j))) else acc.getLsbD (j - n) := by
  induction n generalizing j with
  | zero => simp
  | succ n ih =>
    rw [foldl_shiftIn_succ, BitVec.getLsbD_shiftConcat, decide_eq_true hj, Bool.true_and]
    cases j with
    | zero => simp
    | succ j =>
      have hslot : n + 1 - 1 - (j + 1) = n - 1 - j := by omega
      have hrest : j + 1 - (n + 1) = j - n := by omega
      rw [if_neg (Nat.succ_ne_zero j), Nat.add_sub_cancel, ih j (by omega), hslot, hrest]
      simp only [Nat.add_lt_add_iff_right]

/-- The bits of the n slots from x on, the first weighing 2^(n - 1) and the last 1 (R75). -/
def slotSum (x n : Nat) : Nat :=
  ∑ k ∈ Finset.range n, (if readSlot b (x + k) > c.tOne then 1 else 0) * 2 ^ (n - 1 - k)

/-- One slot more doubles every weight before it. -/
theorem slotSum_succ (x n : Nat) :
    slotSum c b x (n + 1) = slotSum c b x n * 2 + (sampleBit c (readSlot b (x + n))).toNat := by
  have hdouble : ∀ k ∈ Finset.range n,
      (if readSlot b (x + k) > c.tOne then 1 else 0) * 2 ^ (n + 1 - 1 - k) =
        (if readSlot b (x + k) > c.tOne then 1 else 0) * 2 ^ (n - 1 - k) * 2 := fun k hk => by
    have hexp : n + 1 - 1 - k = n - 1 - k + 1 := by
      have := Finset.mem_range.1 hk
      omega
    rw [hexp, Nat.pow_succ, Nat.mul_assoc]
  have hlast : (if readSlot b (x + n) > c.tOne then 1 else 0) * 2 ^ (n + 1 - 1 - n) =
      (sampleBit c (readSlot b (x + n))).toNat := by
    simp [sampleBit, Bool.toNat, Bool.cond_decide]
  rw [slotSum, Finset.sum_range_succ, Finset.sum_congr rfl hdouble, ← Finset.sum_mul, hlast, slotSum]

/-- From 0, no bit is shifted out before the 33rd slot, so the value is the sum itself. -/
theorem toNat_foldl_shiftIn_zero (x n : Nat) (hn : n ≤ 32) :
    ((List.range' x n).foldl (shiftIn c b) 0#32).toNat = slotSum c b x n ∧
      ((List.range' x n).foldl (shiftIn c b) 0#32).toNat < 2 ^ n := by
  induction n with
  | zero => simp [slotSum]
  | succ n ih =>
    obtain ⟨hsum, hlt⟩ := ih (by omega)
    rw [foldl_shiftIn_succ]
    exact ⟨by rw [BitVec.toNat_shiftConcat_eq_of_lt hn hlt, hsum, slotSum_succ],
      BitVec.toNat_shiftConcat_lt_of_lt hn hlt⟩

/-- R74: each bit of the command is that of its own slot. -/
theorem decodeFrame_getLsbD {j : Nat} (hj : j < 32) :
    (decodeFrame c b).getLsbD j = sampleBit c (readSlot b (33 - j)) := by
  have hslot : 2 + (32 - 1 - j) = 33 - j := by omega
  rw [decodeFrame, nSkip, nData, getLsbD_foldl_shiftIn c b _ _ _ _ hj, if_pos hj, hslot]

/-- 32 iterations shift every bit of the initial accumulator out (R75). -/
theorem foldl_shiftIn_eq_decodeFrame (acc : Command) :
    (List.range' 2 32).foldl (shiftIn c b) acc = decodeFrame c b := by
  refine BitVec.eq_of_getLsbD_eq fun j hj => ?_
  rw [decodeFrame, nSkip, nData, getLsbD_foldl_shiftIn c b _ _ _ _ hj,
    getLsbD_foldl_shiftIn c b _ _ _ _ hj, if_pos hj, if_pos hj]

/-- R95: NEXT_DECODE clears the latch, NEVER keeps it. -/
theorem latchAfterDecode_eq (s : State) :
    latchAfterDecode s = if s.cfg.estopRelease = .nextDecode then false else s.estopLatch := by
  unfold latchAfterDecode
  cases s.cfg.estopRelease <;> rfl

/-- R73: DECODE where it is enabled. -/
theorem exec_decode_of_complete (hq : s.seq = Seq.idle) (hi : s.idx.toNat = 34) :
    exec .decode s = .next (takeFrame s) :=
  (atSeq_of_eq _ hq).trans (if_pos ((frameComplete_iff s).2 hi))

/-- Settles O14: DECODE takes the frame, whose bits are those of the loop. -/
theorem decodeTakesCompleteFrame : Obligations.DecodeTakesCompleteFrame := by
  refine ⟨rfl, fun s hq hi => ⟨takeFrame s, exec_decode_of_complete hq hi, fun j hj => ?bits, ?frame⟩⟩
  case bits => exact decodeFrame_getLsbD s.cfg s.buf hj
  case frame =>
    rw [← latchAfterDecode_eq]
    exact takeFrame_eq s

/-- Settles O16: the loop's value is the sum by weight, and its bits leave nothing of the accumulator. -/
theorem decodeIsMostSignificantFirstSum : Obligations.DecodeIsMostSignificantFirstSum := fun c b =>
  have hsum := (toNat_foldl_shiftIn_zero c b 2 32 (Nat.le_refl 32)).1
  ⟨hsum, foldl_shiftIn_eq_decodeFrame c b⟩

end Sys2Proof.Machine
end

section
/-! The dispatcher (`43_dispatch.md` R78, R79): what the lookup answers for a code of the table and for every
other command, and the whole of DISPATCH where it is enabled. -/

namespace Sys2Proof.Machine

variable {c : Config} {s : State}

/-- R79: STOP is reached only by the default, whatever the codes are. -/
theorem lookup_eq_stop_iff (v : Command) : lookup c v = .stop ↔ v ∉ c.codes := by
  simp only [Config.codes, List.mem_cons, List.not_mem_nil, or_false, not_or]
  constructor
  case mp =>
    intro h
    unfold lookup at h
    split_ifs at h with hfwd hbwd hleft hright hspeedup hslowdown hacc
    exact ⟨hfwd, hbwd, hleft, hright, hspeedup, hslowdown, hacc⟩
  case mpr =>
    rintro ⟨hfwd, hbwd, hleft, hright, hspeedup, hslowdown, hacc⟩
    rw [lookup, if_neg hfwd, if_neg hbwd, if_neg hleft, if_neg hright, if_neg hspeedup,
      if_neg hslowdown, if_neg hacc]

/-- R79: a code differs from those tested before it, so its own case is the first to match. The codes are
read from the last to the first, so that each is told apart from the earlier ones. -/
theorem lookup_of_codes_nodup (h : c.codes.Nodup) :
    lookup c c.codeFwd = .fwd ∧ lookup c c.codeBwd = .bwd ∧ lookup c c.codeLeft = .left ∧
    lookup c c.codeRight = .right ∧ lookup c c.codeSpeedup = .speedup ∧
    lookup c c.codeSlowdown = .slowdown ∧ lookup c c.codeAcc = .accToggle := by
  have hrev : c.codes.reverse.Nodup := List.nodup_reverse.2 h
  simp only [Config.codes, List.reverse_cons, List.reverse_nil, List.nil_append, List.cons_append,
    List.nodup_cons, List.mem_cons, List.not_mem_nil, or_false, not_or] at hrev
  obtain ⟨hacc, hslowdown, hspeedup, hright, hleft, hbwd, -⟩ := hrev
  refine ⟨?_, ?_, ?_, ?_, ?_, ?_, ?_⟩
  · simp [lookup]
  · simp [lookup, hbwd]
  · simp [lookup, hleft]
  · simp [lookup, hright]
  · simp [lookup, hspeedup]
  · simp [lookup, hslowdown]
  · simp [lookup, hacc]

/-- Settles O19: the codes of a well-formed configuration are distinct, and STOP is the default alone. -/
theorem lookupIsExactMatch : Obligations.LookupIsExactMatch := by
  intro c hwf
  obtain ⟨hfwd, hbwd, hleft, hright, hspeedup, hslowdown, hacc⟩ :=
    lookup_of_codes_nodup (Config.wf_codes hwf)
  exact ⟨hfwd, hbwd, hleft, hright, hspeedup, hslowdown, hacc, lookup_eq_stop_iff⟩

/-- R78: DISPATCH in its state always answers; `execDispatch_next` says with what. -/
theorem exec_dispatch_answers (h : s.seq = Seq.dispatch) : ∃ t, exec .dispatch s = .next t :=
  ⟨_, atSeq_of_eq _ h⟩

/-- Settles O18: DISPATCH answers, and its answer has the whole effect and frame of R78. -/
theorem dispatchSelectsAction : Obligations.DispatchSelectsAction := by
  refine ⟨rfl, fun s hq => ?_⟩
  obtain ⟨t, ht⟩ := exec_dispatch_answers hq
  obtain ⟨-, rfl⟩ := execDispatch_next ht
  exact ⟨Config.freeParity s.draws, _, ht, rfl, rfl⟩

end Sys2Proof.Machine
end

section
/-! The sequencer's operation in each of its states (`30_encoding.md` R58), and the action multiplexer
(`43_dispatch.md` R80). -/

namespace Sys2Proof.Machine

variable {s : State}

theorem agentInstr_seq_of_boot (h : s.seq = Seq.boot) : agentInstr .seq s = some .boot :=
  if_pos h

theorem agentInstr_seq_of_idle (h : s.seq = Seq.idle) : agentInstr .seq s = some .decode := by
  rw [agentInstr, h]
  rfl

theorem agentInstr_seq_of_dispatch (h : s.seq = Seq.dispatch) :
    agentInstr .seq s = some .dispatch := by
  rw [agentInstr, h]
  rfl

theorem agentInstr_seq_of_act (h : s.seq = Seq.act) : agentInstr .seq s = some s.action.instr := by
  rw [agentInstr, h]
  rfl

theorem agentInstr_seq_of_settle (h : s.seq = Seq.settle) : agentInstr .seq s = some .settle := by
  rw [agentInstr, h]
  rfl

/-- R80: the eight codes with their operations, in the order of the codes. -/
def actionTable : List (Code3 × Instr) :=
  [(0b000#3, .actStop), (0b001#3, .actFwd), (0b010#3, .actBwd), (0b011#3, .actLeft),
    (0b100#3, .actRight), (0b101#3, .actSpeedup), (0b110#3, .actSlowdown), (0b111#3, .actAccToggle)]

theorem code_instr_mem_actionTable (a : Action) : (a.code, a.instr) ∈ actionTable := by
  cases a <;> decide

/-- R59, R80: the selector of an action operation is `11 010` and the action's code. -/
theorem encode_action_instr (a : Action) : encode a.instr = 0b11010#5 ++ a.code := by
  cases a <;> rfl

/-- R59: in S_ACT the `AC` field of the sequencer's selector is `ACTION`. -/
theorem selectorOf_seq_of_act (h : s.seq = Seq.act) :
    selectorOf .seq s = ⟨0b11#2, Seq.act, s.action.code⟩ := by
  simp [selectorOf, Agent.stepCode, h]

/-- R80: `STEP` and `SQ` make up the leading `11 010` of the selector of an action step. -/
theorem selectorOf_seq_toWord_of_act (h : s.seq = Seq.act) :
    (selectorOf .seq s).toWord = 0b11010#5 ++ s.action.code := by
  have hhigh : 0b11#2 ++ Seq.act = 0b11010#5 := rfl
  rw [selectorOf_seq_of_act h, Selector.toWord, hhigh]

/-- Settles O51: one lemma for each state, and in S_ACT the multiplexer's table. -/
theorem sequencerPerformsItsState : Obligations.SequencerPerformsItsState := fun s =>
  ⟨agentInstr_seq_of_boot, agentInstr_seq_of_idle, agentInstr_seq_of_dispatch,
    fun hact => ⟨s.action.instr, agentInstr_seq_of_act hact, code_instr_mem_actionTable s.action,
      selectorOf_seq_toWord_of_act hact, encode_action_instr s.action⟩,
    agentInstr_seq_of_settle⟩

end Sys2Proof.Machine
end

section
/-! SUPPORT. The actuator's operations where each is enabled (`44_actuator.md` R81 to R90): the `_next` lemmas
of `Laws/Exec.lean` read from the answer back, these from the state on. -/

namespace Sys2Proof.Machine

variable {s : State}

theorem exec_actStop_of_act (hq : s.seq = Seq.act) (ha : s.action = .stop) :
    exec .actStop s = .next (s.deEnergize.goto Seq.idle) :=
  atAct_of_eq _ hq ha

/-- R82 to R85: the four motion actions share the entry of R81. -/
theorem exec_instr_of_isMotion {a : Action} (hm : a.isMotion = true) (hq : s.seq = Seq.act)
    (ha : s.action = a) : exec a.instr s = .next (motionEntry s) := by
  cases a with
  | fwd | bwd | left | right => exact atAct_of_eq _ hq ha
  | stop | speedup | slowdown | accToggle => cases hm

theorem exec_actSpeedup_of_act (hq : s.seq = Seq.act) (ha : s.action = .speedup) :
    exec .actSpeedup s = .next ((applySpeed s (speedUp s.speed)).goto Seq.idle) :=
  atAct_of_eq _ hq ha

theorem exec_actSlowdown_of_act (hq : s.seq = Seq.act) (ha : s.action = .slowdown) :
    exec .actSlowdown s = .next ((applySpeed s (speedDown s.speed)).goto Seq.idle) :=
  atAct_of_eq _ hq ha

theorem exec_actAccToggle_of_act (hq : s.seq = Seq.act) (ha : s.action = .accToggle) :
    exec .actAccToggle s = .next ((s.setAcc (!s.acc)).goto Seq.idle) :=
  atAct_of_eq _ hq ha

/-- The end of a speed action, whichever speed it computed (R87, R88). -/
theorem applySpeed_goto_eq (s : State) (v : Level) (q : Code3) : (applySpeed s v).goto q =
    { s with
      speed := v
      pwmA := if s.estopLatch then s.pwmA else v
      pwmB := if s.estopLatch then s.pwmB else v
      seq := q } := by
  rw [applySpeed_eq]
  rfl

/-- R88 over the integers, as the rule computes it: the truncated subtraction of `speedDown_toNat`. -/
theorem speedDown_toInt (v : Level) : ((speedDown v).toNat : Int) = max ((v.toNat : Int) - 10) 0 := by
  have hnat := speedDown_toNat v
  omega

/-- R90: in S_SETTLE the delay alone makes the sequencer hold. -/
theorem seqHolds_of_settle (hq : s.seq = Seq.settle) : s.seqHolds = true ↔ 0 < s.settleCnt := by
  have hidle : (s.seq == Seq.idle) = false := by rw [hq]; rfl
  have hsettle : (s.seq == Seq.settle) = true := by rw [hq]; rfl
  rw [State.seqHolds, hidle, hsettle, Bool.false_and, Bool.false_or, Bool.true_and, decide_eq_true_iff]

/-- R90: at the end of the delay SETTLE is enabled. -/
theorem exec_settle_of_elapsed (hq : s.seq = Seq.settle) (hc : s.settleCnt = 0) :
    exec .settle s = assertMotion s :=
  (atSeq_of_eq _ hq).trans (if_pos hc)

theorem assertMotion_of_latched (hl : s.estopLatch = true) :
    assertMotion s = .next (s.goto Seq.idle) :=
  if_pos hl

theorem assertMotion_of_pattern {p : Direction × Direction} (hl : s.estopLatch = false)
    (hp : patternOf s.cfg s.action = some p) :
    assertMotion s = .next (((s.setDir p).setPwm s.speed).goto Seq.idle) := by
  simp [assertMotion, hl, hp]

/-- R57: the four entries of `DIR_PATTERN` are the motion actions'. -/
theorem patternOf_of_mem {c : Config} {a : Action} {p : Direction × Direction}
    (h : (a, p) ∈ [(Action.fwd, c.dirPattern.fwd), (Action.bwd, c.dirPattern.bwd),
      (Action.left, c.dirPattern.left), (Action.right, c.dirPattern.right)]) :
    patternOf c a = some p := by
  simp only [List.mem_cons, List.not_mem_nil, or_false, Prod.mk.injEq] at h
  obtain ⟨rfl, rfl⟩ | ⟨rfl, rfl⟩ | ⟨rfl, rfl⟩ | ⟨rfl, rfl⟩ := h
  all_goals rfl

/-- Settles O20: the four actions are the motion actions, and `motionEntry` is the whole of their effect. -/
theorem motionEntryDeEnergizes : Obligations.MotionEntryDeEnergizes := by
  intro s a ha
  have hm : a.isMotion = true := by obtain rfl | rfl | rfl | rfl := ha <;> rfl
  exact ⟨encode_action_instr a, exec_instr_of_isMotion hm⟩

/-- Settles O21: ACT.STOP de-energizes and returns to S_IDLE. -/
theorem stopDeEnergizes : Obligations.StopDeEnergizes :=
  ⟨encode_action_instr .stop, fun _ => exec_actStop_of_act⟩

/-- Settles O22: the answer's speed is `speedUp`, and the rest of its effect is that of `applySpeed`. -/
theorem speedUpSaturates : Obligations.SpeedUpSaturates := by
  refine ⟨encode_action_instr .speedup, fun s hq ha => ⟨_, exec_actSpeedup_of_act hq ha, ?_⟩⟩
  rw [applySpeed_goto_eq]
  exact ⟨speedUp_toNat s.speed, rfl⟩

/-- Settles O23: the answer's speed is `speedDown`, and the rest of its effect is that of `applySpeed`. -/
theorem slowDownSaturates : Obligations.SlowDownSaturates := by
  refine ⟨encode_action_instr .slowdown, fun s hq ha => ⟨_, exec_actSlowdown_of_act hq ha, ?_⟩⟩
  rw [applySpeed_goto_eq]
  exact ⟨speedDown_toInt s.speed, rfl⟩

/-- Settles O24: the port follows the flag, and the operation has no case for the latch. -/
theorem accessoryToggles : Obligations.AccessoryToggles :=
  ⟨encode_action_instr .accToggle, fun _ hq ha => ⟨_, exec_actAccToggle_of_act hq ha, rfl, rfl⟩⟩

/-- Settles O25: the hold, and the two ends of the delay that the latch tells apart. -/
theorem settleCompletesMotion : Obligations.SettleCompletesMotion := by
  refine ⟨rfl, fun s hq => ⟨seqHolds_of_settle hq, fun hc hl => ?latched,
    fun hc hl a p hmem ha => ?asserted⟩⟩
  case latched =>
    rw [exec_settle_of_elapsed hq hc, assertMotion_of_latched hl]
    rfl
  case asserted =>
    have hp : patternOf s.cfg s.action = some p := by rw [ha]; exact patternOf_of_mem hmem
    rw [exec_settle_of_elapsed hq hc, assertMotion_of_pattern hl hp]
    rfl

end Sys2Proof.Machine
end

section
/-! R91: the speed along a run. What each operation does to `SPEED`; along a run only the two speed
operations count, and saturating once more absorbs into saturating once. -/

namespace Sys2Proof.Machine

variable {s t : State} {i : Instr} {is : List Instr}

theorem instr_ne_speed_of_isMotion {a : Action} (h : a.isMotion = true) :
    a.instr ≠ .actSpeedup ∧ a.instr ≠ .actSlowdown := by
  cases a with
  | fwd | bwd | left | right => exact ⟨by decide, by decide⟩
  | stop | speedup | slowdown | accToggle => cases h

/-- R25: `SPEED` is written by ACT.SPEEDUP and ACT.SLOWDOWN alone. Each case of `exec_next` names its
operation but the motion entry, which `instr_ne_speed_of_isMotion` tells from the two. -/
theorem exec_speed (h : exec i s = .next t) :
    (i = .actSpeedup ∧ t.speed = speedUp s.speed) ∨
    (i = .actSlowdown ∧ t.speed = speedDown s.speed) ∨
    (i ≠ .actSpeedup ∧ i ≠ .actSlowdown ∧ t.speed = s.speed) := by
  obtain ⟨rfl, -, rfl⟩ | ⟨rfl | rfl, -, -, rfl⟩ | ⟨rfl, -, rfl⟩ | ⟨rfl, -, -, rfl⟩ | ⟨rfl, -, -, rfl⟩ |
    ⟨rfl, rfl⟩ | ⟨rfl, -, rfl⟩ | ⟨rfl, -, -, rfl⟩ | ⟨rfl, -, -, rfl⟩ | ⟨rfl, -, rfl⟩ | ⟨rfl, -, -, rfl⟩ |
    ⟨rfl, hm, -, rfl⟩ | ⟨rfl, -, -, rfl⟩ | ⟨rfl, -, -, rfl⟩ | ⟨rfl, -, -, rfl⟩ | ⟨rfl, -, -, rfl⟩ |
    ⟨rfl, -, -, -, rfl⟩ | ⟨rfl, -, -, -, -, -, rfl⟩ := exec_next h
  all_goals simp [storeSample, applySpeed_eq, instr_ne_speed_of_isMotion, *]

/-- What every operation keeps holds along a run. -/
theorem Path.keeps {P : State → Prop} (hexec : ∀ i s t, P s → exec i s = .next t → P t)
    (h : Path is s t) (hs : P s) : P t := by
  induction is generalizing s with
  | nil => cases h; exact hs
  | cons i is ih =>
    obtain ⟨-, m, he, hp⟩ := h
    exact ih hp (hexec i s m hs he)

/-- R25: no operation takes the speed out of its range. -/
theorem exec_speed_le (hs : s.speed.toNat ≤ 100) (h : exec i s = .next t) : t.speed.toNat ≤ 100 := by
  obtain ⟨-, ht⟩ | ⟨-, ht⟩ | ⟨-, -, ht⟩ := exec_speed h
  · rw [ht, speedUp_toNat]
    omega
  · rw [ht, speedDown_toNat]
    omega
  · rw [ht]
    exact hs

theorem Path.speed_le (h : Path is s t) (hs : s.speed.toNat ≤ 100) : t.speed.toNat ≤ 100 :=
  h.keeps (fun _ _ _ => exec_speed_le) hs

/-- R91: k SPEEDUPs and no SLOWDOWN. -/
theorem Path.speed_of_no_slowdown (h : Path is s t) (hs : s.speed.toNat ≤ 100)
    (hno : .actSlowdown ∉ is) :
    t.speed.toNat = min (s.speed.toNat + is.count .actSpeedup * 10) 100 := by
  induction is generalizing s with
  | nil =>
    cases h
    simp [hs]
  | cons i is ih =>
    obtain ⟨-, m, he, hp⟩ := h
    have hrest := ih hp (exec_speed_le hs he) (List.not_mem_of_not_mem_cons hno)
    obtain ⟨rfl, hm⟩ | ⟨rfl, -⟩ | ⟨hne, -, hm⟩ := exec_speed he
    · rw [hrest, hm, speedUp_toNat, List.count_cons_self]
      omega
    · exact absurd List.mem_cons_self hno
    · rw [hrest, hm, List.count_cons_of_ne hne]

/-- R91: k SLOWDOWNs and no SPEEDUP, with the truncated subtraction for the saturation at 0. -/
theorem Path.speed_of_no_speedup (h : Path is s t) (hno : .actSpeedup ∉ is) :
    t.speed.toNat = s.speed.toNat - is.count .actSlowdown * 10 := by
  induction is generalizing s with
  | nil =>
    cases h
    simp
  | cons i is ih =>
    obtain ⟨-, m, he, hp⟩ := h
    have hrest := ih hp (List.not_mem_of_not_mem_cons hno)
    obtain ⟨rfl, -⟩ | ⟨rfl, hm⟩ | ⟨-, hne, hm⟩ := exec_speed he
    · exact absurd List.mem_cons_self hno
    · rw [hrest, hm, speedDown_toNat, List.count_cons_self]
      omega
    · rw [hrest, hm, List.count_cons_of_ne hne]

theorem resetWith_speed_toNat {c : Config} (h : c.wf = true) (buf : FrameBuffer) (cmd : Command)
    (p : Bool) : (State.resetWith c buf cmd p).speed.toNat = c.speedReset := by
  have hle := Config.wf_speed h
  exact (BitVec.toNat_ofNat _ _).trans (Nat.mod_eq_of_lt (by omega))

/-- Settles O27: the reset value's range is R7's, and the three facts of a run are inductions over it. -/
theorem speedRunsSaturate : Obligations.SpeedRunsSaturate := by
  refine ⟨fun c buf cmd p hwf => ?reset, fun is s t hpath hs =>
    ⟨hpath.speed_le hs, hpath.speed_of_no_slowdown hs, fun hno => ?down⟩⟩
  case reset =>
    rw [resetWith_speed_toNat hwf]
    exact Config.wf_speed hwf
  case down =>
    have hnat := hpath.speed_of_no_speedup hno
    omega

end Sys2Proof.Machine
end

section
/-! The emergency stop (`45_estop.md` R93, R94): what each operation does to the latch and to the motor
outputs, and from that the latch's invariant. -/

namespace Sys2Proof.Machine

variable {s t : State} {i : Instr}

/-- R93: ESTOP_EDGE has no guard, so no state refuses it and neither `GIE` nor `SEQ` is consulted. -/
theorem exec_estopEdge (s : State) :
    exec .estopEdge s = .next ((s.deEnergize.setLatch true).emit .estop) :=
  rfl

/-- Settles O30: the selector's byte, and `exec_estopEdge` with its register writes spelled out. -/
theorem estopDeEnergizes : Obligations.EstopDeEnergizes :=
  ⟨rfl, exec_estopEdge⟩

/-- R94: the three ways an operation from `s` to `t` treats the latch and the motor outputs. -/
inductive LatchEffect (s t : State) : Prop
  /-- The motor outputs are de-energized: ESTOP_EDGE, ACT.STOP, the motion entries. -/
  | stops (hout : t.deEnergized = true)
  /-- The motor outputs are as before, and the latch is not newly set. -/
  | keeps (hout : t.deEnergized = s.deEnergized) (hlatch : t.estopLatch = true → s.estopLatch = true)
  /-- The motor outputs may be driven, the latch being clear: the speed actions, the end of the delay. -/
  | drives (hlatch : t.estopLatch = false)

/-- R87, R88: with the latch set, a new speed does not reach the compare values. -/
theorem LatchEffect.applySpeed_goto (s : State) (v : Level) (q : Code3) :
    LatchEffect s ((applySpeed s v).goto q) := by
  rw [applySpeed_goto_eq]
  by_cases hl : s.estopLatch = true
  · exact .keeps (by simp [State.deEnergized, hl]) id
  · exact .drives (Bool.eq_false_of_not_eq_true hl)

/-- R95: DECODE keeps the latch or clears it. -/
theorem estopLatch_of_latchAfterDecode (h : latchAfterDecode s = true) : s.estopLatch = true := by
  rw [latchAfterDecode_eq] at h
  split at h
  · cases h
  · exact h

/-- The cases of `exec_next` in its order. -/
theorem exec_latchEffect (h : exec i s = .next t) : LatchEffect s t := by
  obtain ⟨-, -, rfl⟩ | ⟨-, -, -, rfl⟩ | ⟨-, -, rfl⟩ | ⟨-, -, -, rfl⟩ | ⟨-, -, -, rfl⟩ | ⟨-, rfl⟩ |
    ⟨-, -, rfl⟩ | ⟨-, -, -, rfl⟩ | ⟨-, -, -, rfl⟩ | ⟨-, -, rfl⟩ | ⟨-, -, -, rfl⟩ | ⟨-, -, -, rfl⟩ |
    ⟨-, -, -, rfl⟩ | ⟨-, -, -, rfl⟩ | ⟨-, -, -, rfl⟩ | ⟨-, -, -, rfl⟩ | ⟨-, -, -, -, rfl⟩ |
    ⟨-, -, -, hclear, -, -, rfl⟩ := exec_next h
  -- TICK, its overflow, and the three cases of IR_EDGE
  iterate 5 · exact .keeps rfl id
  -- ESTOP_EDGE
  · exact .stops (deEnergized_deEnergize s)
  -- BOOT
  · exact .keeps rfl id
  -- DECODE: a complete frame, and the hold
  · exact .keeps rfl estopLatch_of_latchAfterDecode
  · exact .keeps rfl id
  -- DISPATCH
  · exact .keeps rfl id
  -- ACT.STOP and the motion entries
  iterate 2 · exact .stops (deEnergized_deEnergize s)
  -- ACT.SPEEDUP and ACT.SLOWDOWN
  iterate 2 · exact .applySpeed_goto s _ _
  -- ACT.ACC_TOGGLE
  · exact .keeps rfl id
  -- SETTLE: the hold, and the end of the delay with the latch set and with it clear
  iterate 2 · exact .keeps rfl id
  · exact .drives hclear

/-- R94's invariant: the latch is set only over de-energized outputs. -/
def LatchDeEnergized (s : State) : Prop :=
  s.estopLatch = true → s.deEnergized = true

theorem LatchDeEnergized.of_sameCore {s' : State} (hcore : SameCore s s') (hs : LatchDeEnergized s) :
    LatchDeEnergized s' := by
  rw [hcore]
  exact hs

theorem LatchDeEnergized.exec (hs : LatchDeEnergized s) (h : exec i s = .next t) :
    LatchDeEnergized t := by
  intro hl
  cases exec_latchEffect h with
  | stops hout => exact hout
  | keeps hout hlatch => exact hout.trans (hs (hlatch hl))
  | drives hlatch => exact absurd hl (Bool.eq_false_iff.1 hlatch)

theorem LatchDeEnergized.step (hs : LatchDeEnergized s) (h : step s = .next t) :
    LatchDeEnergized t :=
  step_keeps (fun _ _ => .of_sameCore) (fun _ _ _ => .exec) hs h

/-- R110: reset leaves the latch clear. -/
theorem latchDeEnergized_resetWith (c : Config) (buf : FrameBuffer) (cmd : Command) (p : Bool) :
    LatchDeEnergized (State.resetWith c buf cmd p) :=
  fun hl => absurd hl Bool.false_ne_true

/-- Settles O31: the invariant at reset, and along a step. -/
theorem latchMeansDeEnergized : Obligations.LatchMeansDeEnergized :=
  ⟨latchDeEnergized_resetWith, fun _ _ => LatchDeEnergized.step⟩

end Sys2Proof.Machine
end

section
/-! R100: the global event enable. What each operation does to `GIE`, and the tick while it is 0; the edge
while it is 0 is `exec_irEdge_of_disabled`, and the emergency stop has no guard (`exec_estopEdge`). -/

namespace Sys2Proof.Machine

variable {s t : State} {i : Instr}

theorem instr_ne_boot (a : Action) : a.instr ≠ .boot := by
  cases a <;> decide

/-- R31: `GIE` is written by BOOT alone. Each case of `exec_next` names its operation but the motion entry,
which `instr_ne_boot` tells from BOOT. -/
theorem exec_gie (h : exec i s = .next t) : t.gie = if i = .boot then true else s.gie := by
  obtain ⟨rfl, -, rfl⟩ | ⟨rfl | rfl, -, -, rfl⟩ | ⟨rfl, -, rfl⟩ | ⟨rfl, -, -, rfl⟩ | ⟨rfl, -, -, rfl⟩ |
    ⟨rfl, rfl⟩ | ⟨rfl, -, rfl⟩ | ⟨rfl, -, -, rfl⟩ | ⟨rfl, -, -, rfl⟩ | ⟨rfl, -, rfl⟩ | ⟨rfl, -, -, rfl⟩ |
    ⟨rfl, -, -, rfl⟩ | ⟨rfl, -, -, rfl⟩ | ⟨rfl, -, -, rfl⟩ | ⟨rfl, -, -, rfl⟩ | ⟨rfl, -, -, rfl⟩ |
    ⟨rfl, -, -, -, rfl⟩ | ⟨rfl, -, -, -, -, -, rfl⟩ := exec_next h
  all_goals simp [storeSample, applySpeed_eq, instr_ne_boot]

/-- R66: with the events off an overflow only restarts the watchdog. -/
theorem overflowTick_of_disabled (hg : s.gie = false) (h : overflowTick s = .next t) :
    t.idx = s.idx ∧ t.events = s.events := by
  obtain ⟨-, rfl⟩ := overflowTick_next h
  simp [hg]

/-- R100: with the events off a tick, overflowing or not, neither aborts a frame nor reports one. -/
theorem exec_clk_of_disabled (hg : s.gie = false) (hi : i = .tick ∨ i = .wdtOvf)
    (h : exec i s = .next t) : t.idx = s.idx ∧ t.events = s.events := by
  obtain rfl | rfl := hi
  case inl =>
    obtain ⟨-, hovf⟩ | ⟨-, rfl⟩ := execTick_next h
    · exact overflowTick_of_disabled hg hovf
    · exact ⟨rfl, rfl⟩
  case inr =>
    obtain ⟨-, hovf⟩ := execWdtOvf_next h
    exact overflowTick_of_disabled hg hovf

/-- Settles O36: the writer of `GIE`, the two sources it gates, and the stop that it does not. -/
theorem enableGatesCapture : Obligations.EnableGatesCapture :=
  ⟨fun _ _ _ _ => rfl, fun _ _ _ => exec_gie, fun _ => exec_irEdge_of_disabled,
    fun _ _ _ => exec_clk_of_disabled,
    fun s => ⟨_, exec_estopEdge s, deEnergized_deEnergize s, rfl⟩⟩

end Sys2Proof.Machine
end

section
/-! R98: the event table. `emitted` is the table read by operation, `exec_events` ties it to the model, and
the `mem_emitted` lemmas read it by event. -/

namespace Sys2Proof.Machine

variable {s t : State} {i : Instr}

/-- The events an operation emits where it answers a next state, in their order (R98). -/
def emitted (i : Instr) (s : State) : List Event :=
  match i with
  | .tick | .wdtOvf =>
    if s.wdtCnt = s.cfg.wdtPeriod - 1 ∧ s.gie = true ∧ 0 < s.idx.toNat then
      [.frameAbort s.idx.toNat]
    else []
  | .irEdge => if s.gie = true ∧ s.idx.toNat = 34 then [.edgeLost s.edgeCnt] else []
  | .estopEdge => [.estop]
  | .decode => if s.idx.toNat = 34 then [.frameDecoded (decodeFrame s.cfg s.buf)] else []
  | .dispatch =>
    [.dispatched (lookup s.cfg s.cmd)] ++
      if s.cmd ∈ s.cfg.codes then [] else [.unknownCmd s.cmd]
  | .boot | .actStop | .actFwd | .actBwd | .actLeft | .actRight | .actSpeedup | .actSlowdown
  | .actAccToggle | .settle => []

/-- R80: no action of the multiplexer is reported. -/
@[simp] theorem emitted_instr (a : Action) (s : State) : emitted a.instr s = [] := by
  cases a <;> rfl

/-- R98: an operation appends its events to the trace and touches no earlier one. The cases of
`exec_next`. -/
theorem exec_events (h : exec i s = .next t) : t.events = s.events ++ emitted i s := by
  obtain ⟨rfl, hne, rfl⟩ | ⟨rfl | rfl, heq, -, rfl⟩ | ⟨rfl, hg, rfl⟩ | ⟨rfl, -, hi, rfl⟩ |
    ⟨rfl, hg, hi, rfl⟩ | ⟨rfl, rfl⟩ | ⟨rfl, -, rfl⟩ | ⟨rfl, -, hi, rfl⟩ | ⟨rfl, -, hi, rfl⟩ |
    ⟨rfl, -, rfl⟩ | ⟨rfl, -, -, rfl⟩ | ⟨rfl, -, -, rfl⟩ | ⟨rfl, -, -, rfl⟩ | ⟨rfl, -, -, rfl⟩ |
    ⟨rfl, -, -, rfl⟩ | ⟨rfl, -, -, rfl⟩ | ⟨rfl, -, -, -, rfl⟩ | ⟨rfl, -, -, -, -, -, rfl⟩ := exec_next h
  -- TICK: counting, and the overflow under its two names
  · simp [emitted, hne]
  iterate 2 · simp [emitted, heq]
  -- IR_EDGE: off, with room, and at a full buffer
  · simp [emitted, hg]
  · simp [emitted, storeSample, hi.ne]
  · simp [emitted, hg, hi]
  -- ESTOP_EDGE and BOOT
  iterate 2 · simp [emitted]
  -- DECODE: a complete frame, and the hold
  · simp [emitted, hi]
  · simp [emitted, hi.ne]
  -- DISPATCH
  · simp [emitted]
  -- ACT.STOP and the motion entries
  · simp [emitted]
  · simp
  -- the other actions, and SETTLE
  all_goals simp [emitted, applySpeed_eq]

theorem mem_emitted_frameAbort {n : Nat} : .frameAbort n ∈ emitted i s ↔
    (i = .tick ∨ i = .wdtOvf) ∧ s.wdtCnt = s.cfg.wdtPeriod - 1 ∧ s.gie = true ∧
      s.idx.toNat = n ∧ 0 < n := by
  cases i with
  | tick | wdtOvf =>
    simp only [emitted, List.mem_ite_nil_right, List.mem_singleton, Event.frameAbort.injEq]
    grind
  | _ => simp [emitted]

theorem mem_emitted_unknownCmd {c : Command} : .unknownCmd c ∈ emitted i s ↔
    i = .dispatch ∧ s.cmd = c ∧ c ∉ s.cfg.codes := by
  cases i with
  | dispatch =>
    simp only [emitted, List.mem_append, List.mem_singleton, List.mem_ite_nil_left, reduceCtorEq,
      false_or, Event.unknownCmd.injEq]
    grind
  | _ => simp [emitted]

theorem mem_emitted_estop : .estop ∈ emitted i s ↔ i = .estopEdge := by
  cases i <;> simp [emitted]

theorem mem_emitted_edgeLost {v : Nat} : .edgeLost v ∈ emitted i s ↔
    i = .irEdge ∧ s.gie = true ∧ s.idx.toNat = 34 ∧ s.edgeCnt = v := by
  cases i with
  | irEdge => simp [emitted, and_assoc, @eq_comm _ v]
  | _ => simp [emitted]

theorem mem_emitted_frameDecoded {c : Command} : .frameDecoded c ∈ emitted i s ↔
    i = .decode ∧ s.idx.toNat = 34 ∧ decodeFrame s.cfg s.buf = c := by
  cases i with
  | decode => simp [emitted, @eq_comm _ c]
  | _ => simp [emitted]

theorem mem_emitted_dispatched {a : Action} : .dispatched a ∈ emitted i s ↔
    i = .dispatch ∧ lookup s.cfg s.cmd = a := by
  cases i with
  | dispatch => simp [emitted, @eq_comm _ a]
  | _ => simp [emitted]

/-- R73: FRAME_DECODED carries the command that DECODE writes. -/
theorem exec_decode_cmd (h : exec .decode s = .next t) (hi : s.idx.toNat = 34) :
    t.cmd = decodeFrame s.cfg s.buf := by
  obtain ⟨-, ⟨-, rfl⟩ | ⟨hlt, -⟩⟩ := execDecode_next h
  · rfl
  · exact absurd hi hlt.ne

/-- R78: DISPATCHED carries the action that DISPATCH writes. -/
theorem exec_dispatch_action (h : exec .dispatch s = .next t) : t.action = lookup s.cfg s.cmd := by
  obtain ⟨-, rfl⟩ := execDispatch_next h
  rfl

/-- Settles O39: the events appended are `emitted`, read by event; the two that carry a register's new value
by what DECODE and DISPATCH write. -/
theorem eventsAreTheTables : Obligations.EventsAreTheTables := by
  refine ⟨fun i s t h => ⟨emitted i s, exec_events h, fun _ => mem_emitted_frameAbort,
    fun _ => mem_emitted_unknownCmd, mem_emitted_estop, fun _ => mem_emitted_edgeLost,
    fun c => ?decoded, fun a => ?dispatched⟩,
    fun _ => rfl, fun _ => rfl, rfl, fun _ => rfl, fun _ => rfl, fun _ => rfl⟩
  case decoded =>
    rw [mem_emitted_frameDecoded]
    refine and_congr_right fun hd => and_congr_right fun hi => ?_
    subst hd
    rw [exec_decode_cmd h hi]
  case dispatched =>
    rw [mem_emitted_dispatched]
    refine and_congr_right fun hd => ?_
    subst hd
    rw [exec_dispatch_action h]

end Sys2Proof.Machine
end

section
/-! The state after power-on reset (`70_reset_and_hazards.md` R110) and BOOT, which ends it (R111). The
sequencer's operations leave S_BOOT or never were there, and the other agents keep `SEQ`; a run therefore
stays in S_BOOT exactly up to the sequencer's first step. -/

namespace Sys2Proof

/-! R58: the code of S_BOOT is no other state's. -/

theorem Seq.idle_ne_boot : Seq.idle ≠ Seq.boot := by decide
theorem Seq.dispatch_ne_boot : Seq.dispatch ≠ Seq.boot := by decide
theorem Seq.act_ne_boot : Seq.act ≠ Seq.boot := by decide
theorem Seq.settle_ne_boot : Seq.settle ≠ Seq.boot := by decide

end Sys2Proof

namespace Sys2Proof.Machine

variable {s t : State} {i : Instr} {σ : Nat → Agent} {ρ : Nat → State} {n m : Nat}

/-- Settles O1: the reset values are those of `State.resetWith`, and the speed is the configured one because
R7 (d) keeps it within 8 bits. -/
theorem resetLeavesCoreStopped : Obligations.ResetLeavesCoreStopped := by
  intro c buf cmd p
  have hspeed : c.wf = true → (State.resetWith c buf cmd p).speed.toNat = c.speedReset := fun hwf =>
    resetWith_speed_toNat hwf buf cmd p
  exact ⟨rfl, rfl, rfl, rfl, rfl, rfl, rfl, rfl, rfl, hspeed, rfl, rfl, rfl, rfl, rfl, rfl, rfl, rfl,
    rfl, rfl, rfl⟩

theorem exec_boot_of_boot (h : s.seq = Seq.boot) : exec .boot s =
    .next { s with edgeCnt := 0, wdtCnt := 0, idx := 0#6, gie := true, seq := Seq.idle } :=
  if_pos h

theorem seqHolds_of_boot (h : s.seq = Seq.boot) : s.seqHolds = false := by
  rw [State.seqHolds, h]
  rfl

/-- R80: the multiplexer's operations are the sequencer's. -/
theorem agent_instr (a : Action) : a.instr.agent = .seq := by
  cases a <;> rfl

/-- R28, R58: `SEQ` is the sequencer's own register, and no operation of the sequencer ends in S_BOOT. -/
theorem exec_seq_boot (h : exec i s = .next t) :
    (i.agent ≠ .seq ∧ t.seq = s.seq) ∨ (i.agent = .seq ∧ t.seq ≠ Seq.boot) := by
  obtain ⟨rfl, -, rfl⟩ | ⟨rfl | rfl, -, -, rfl⟩ | ⟨rfl, -, rfl⟩ | ⟨rfl, -, -, rfl⟩ | ⟨rfl, -, -, rfl⟩ |
    ⟨rfl, rfl⟩ | ⟨rfl, -, rfl⟩ | ⟨rfl, -, -, rfl⟩ | ⟨rfl, hq, -, rfl⟩ | ⟨rfl, -, rfl⟩ | ⟨rfl, -, -, rfl⟩ |
    ⟨rfl, -, -, rfl⟩ | ⟨rfl, -, -, rfl⟩ | ⟨rfl, -, -, rfl⟩ | ⟨rfl, -, -, rfl⟩ | ⟨rfl, hq, -, rfl⟩ |
    ⟨rfl, -, -, -, rfl⟩ | ⟨rfl, -, -, -, -, -, rfl⟩ := exec_next h
  -- TICK, its overflow under its two names, the three cases of IR_EDGE, ESTOP_EDGE
  iterate 7 · exact .inl ⟨by decide, rfl⟩
  -- BOOT
  · exact .inr ⟨rfl, Seq.idle_ne_boot⟩
  -- DECODE: a complete frame, and the hold
  · exact .inr ⟨rfl, Seq.dispatch_ne_boot⟩
  · exact .inr ⟨rfl, hq.trans_ne Seq.idle_ne_boot⟩
  -- DISPATCH
  · exact .inr ⟨rfl, Seq.act_ne_boot⟩
  -- ACT.STOP and the motion entries
  · exact .inr ⟨rfl, Seq.idle_ne_boot⟩
  · exact .inr ⟨agent_instr _, Seq.settle_ne_boot⟩
  -- the other actions
  iterate 3 · exact .inr ⟨rfl, Seq.idle_ne_boot⟩
  -- SETTLE: the hold, and the end of the delay with the latch set and with it clear
  · exact .inr ⟨rfl, hq.trans_ne Seq.settle_ne_boot⟩
  iterate 2 · exact .inr ⟨rfl, Seq.idle_ne_boot⟩

/-- R111: "no step enters S_BOOT". -/
theorem exec_ends_in_boot (h : exec i s = .next t) (ht : t.seq = Seq.boot) :
    s.seq = Seq.boot ∧ i ≠ .boot := by
  obtain ⟨hagent, hseq⟩ | ⟨-, hne⟩ := exec_seq_boot h
  · exact ⟨hseq.symm.trans ht, fun hi => hagent (congrArg Instr.agent hi)⟩
  · exact absurd ht hne

theorem AgentRun.seq_of_other_agent (h : AgentRun σ ρ) (hσ : σ n ≠ .seq) :
    (ρ (n + 1)).seq = (ρ n).seq := by
  obtain ⟨i, ha, he⟩ := h n
  obtain ⟨-, hseq⟩ | ⟨hagent, -⟩ := exec_seq_boot he
  · exact hseq
  · exact absurd ((agentInstr_agent ha).symm.trans hagent) hσ

theorem AgentRun.ne_boot_of_seq_step (h : AgentRun σ ρ) (hσ : σ n = .seq) :
    (ρ (n + 1)).seq ≠ Seq.boot := by
  obtain ⟨i, ha, he⟩ := h n
  obtain ⟨hagent, -⟩ | ⟨-, hne⟩ := exec_seq_boot he
  · exact absurd ((agentInstr_agent ha).trans hσ) hagent
  · exact hne

/-- Up to the sequencer's first step a run stays in S_BOOT. -/
theorem AgentRun.boot_of_no_seq_step (h : AgentRun σ ρ) (h0 : (ρ 0).seq = Seq.boot)
    (hno : ∀ k, k < m → σ k ≠ .seq) : (ρ m).seq = Seq.boot := by
  induction m with
  | zero => exact h0
  | succ m ih =>
    have hm : (ρ m).seq = Seq.boot := ih fun k hk => hno k (Nat.lt_succ_of_lt hk)
    exact (h.seq_of_other_agent (hno m (Nat.lt_succ_self m))).trans hm

/-- Once out of S_BOOT a run never returns. -/
theorem AgentRun.ne_boot_of_le (h : AgentRun σ ρ) (hn : (ρ n).seq ≠ Seq.boot) (hle : n ≤ m) :
    (ρ m).seq ≠ Seq.boot := by
  induction m, hle using Nat.le_induction with
  | base => exact hn
  | succ m _ ih =>
    obtain ⟨i, -, he⟩ := h m
    exact fun hboot => ih (exec_ends_in_boot he hboot).1

/-- R13, R111: the sequencer, "always enabled in S_BOOT", cannot be passed over for ever. -/
theorem AgentRun.exists_seq_step (h : AgentRun σ ρ) (hfair : SeqFair σ ρ)
    (h0 : (ρ 0).seq = Seq.boot) : ∃ n, σ n = .seq := by
  by_contra hnever
  have hno : ∀ k, σ k ≠ .seq := fun k hk => hnever ⟨k, hk⟩
  have henabled : ∀ m, 0 ≤ m → (ρ m).seqHolds = false := fun m _ =>
    seqHolds_of_boot (h.boot_of_no_seq_step h0 fun k _ => hno k)
  obtain ⟨m, -, hm⟩ := hfair 0 henabled
  exact hno m hm

/-- R111: a fair run from S_BOOT is in S_BOOT up to the sequencer's first step and never after it. -/
theorem AgentRun.boot_exactly_once (h : AgentRun σ ρ) (hfair : SeqFair σ ρ)
    (h0 : (ρ 0).seq = Seq.boot) :
    ∃ n, σ n = .seq ∧ (∀ m, m ≤ n → (ρ m).seq = Seq.boot) ∧
      (∀ m, n < m → (ρ m).seq ≠ Seq.boot) := by
  have hex := h.exists_seq_step hfair h0
  refine ⟨Nat.find hex, Nat.find_spec hex, fun m hm => ?before, fun m hm => ?after⟩
  case before =>
    exact h.boot_of_no_seq_step h0 fun k hk => Nat.find_min hex (hk.trans_le hm)
  case after =>
    exact h.ne_boot_of_le (h.ne_boot_of_seq_step (Nat.find_spec hex)) hm

/-- Settles O3: BOOT's byte and effect, that no operation ends in S_BOOT but from it, and the run. -/
theorem bootStartsCapture : Obligations.BootStartsCapture :=
  ⟨rfl, fun _ hboot => ⟨agentInstr_seq_of_boot hboot, exec_boot_of_boot hboot⟩,
    fun _ _ _ => exec_ends_in_boot, fun _ _ => AgentRun.boot_exactly_once⟩

end Sys2Proof.Machine
end

section
/-! What one operation can do to each register, read off the cases of `exec_next` once: the writers of R18,
the motor outputs (R33, R34), the frame index (R20), the frame buffer (R21), the settling counter (R29), the
latch (R30) and the sequencer's graph (R58). The invariants and the facts about runs below cite these. -/

namespace Sys2Proof

/-! R58: the code of S_SETTLE is no other state's. -/

theorem Seq.idle_ne_settle : Seq.idle ≠ Seq.settle := by decide
theorem Seq.dispatch_ne_settle : Seq.dispatch ≠ Seq.settle := by decide
theorem Seq.act_ne_settle : Seq.act ≠ Seq.settle := by decide

end Sys2Proof

namespace Sys2Proof.Machine

variable {s t : State} {i : Instr}

/-- R11, R59: the operations of the clock. -/
theorem eq_tick_or_wdtOvf_of_agent (h : i.agent = .clk) : i = .tick ∨ i = .wdtOvf := by
  cases i with
  | tick => exact .inl rfl
  | wdtOvf => exact .inr rfl
  | _ => cases h

theorem ne_tick_of_agent (h : i.agent ≠ .clk) : i ≠ .tick ∧ i ≠ .wdtOvf :=
  ⟨fun hi => h (congrArg Instr.agent hi), fun hi => h (congrArg Instr.agent hi)⟩

/-- R55: the operations of the four motion actions. -/
theorem instr_of_isMotion {a : Action} (h : a.isMotion = true) :
    a.instr = .actFwd ∨ a.instr = .actBwd ∨ a.instr = .actLeft ∨ a.instr = .actRight := by
  cases a with
  | fwd | bwd | left | right => decide
  | stop | speedup | slowdown | accToggle => cases h

/-- Settles O37: each case of `exec_next` names its operation and the registers it writes; the motion entry
stands for four operations. -/
theorem registersHaveOnlyTheirWriters : Obligations.RegistersHaveOnlyTheirWriters := by
  intro i s t h
  obtain ⟨rfl, -, rfl⟩ | ⟨rfl | rfl, -, -, rfl⟩ | ⟨rfl, -, rfl⟩ | ⟨rfl, -, -, rfl⟩ | ⟨rfl, -, -, rfl⟩ |
    ⟨rfl, rfl⟩ | ⟨rfl, -, rfl⟩ | ⟨rfl, -, -, rfl⟩ | ⟨rfl, -, -, rfl⟩ | ⟨rfl, -, rfl⟩ | ⟨rfl, -, -, rfl⟩ |
    ⟨rfl, hm, -, rfl⟩ | ⟨rfl, -, -, rfl⟩ | ⟨rfl, -, -, rfl⟩ | ⟨rfl, -, -, rfl⟩ | ⟨rfl, -, -, rfl⟩ |
    ⟨rfl, -, -, -, rfl⟩ | ⟨rfl, -, -, -, -, -, rfl⟩ := exec_next h
  -- the clock, the signal, the stop, BOOT, DECODE, DISPATCH and ACT.STOP
  iterate 12 · simp [storeSample, Instr.agent]
  -- the motion entries
  · obtain hop | hop | hop | hop := instr_of_isMotion hm
    all_goals simp [hop, Instr.agent]
  -- the other actions, and SETTLE
  all_goals simp [applySpeed_eq, Instr.agent]

/-- The four ways an operation from `s` to `t` treats the motor outputs (R33, R34, R37). -/
inductive MotorEffect (i : Instr) (s t : State) : Prop
  /-- The outputs are as before. -/
  | keeps (hdirA : t.dirA = s.dirA) (hdirB : t.dirB = s.dirB) (hpwmA : t.pwmA = s.pwmA)
      (hpwmB : t.pwmB = s.pwmB)
  /-- The outputs are de-energized: ESTOP_EDGE, ACT.STOP, the motion entries. -/
  | stops (hout : t.deEnergized = true)
  /-- The compare values follow a new speed: ACT.SPEEDUP, ACT.SLOWDOWN. -/
  | follows (hseq : s.seq = Seq.act) (hdirA : t.dirA = s.dirA) (hdirB : t.dirB = s.dirB)
      (hpwmA : t.pwmA = t.speed) (hpwmB : t.pwmB = t.speed)
  /-- The action's pattern is asserted at the speed: SETTLE at the end of the delay. -/
  | asserts (hi : i = .settle) (hseq : s.seq = Seq.settle) (p : Direction × Direction)
      (hp : patternOf s.cfg s.action = some p) (hdirA : t.dirA = p.1) (hdirB : t.dirB = p.2)
      (hpwmA : t.pwmA = t.speed) (hpwmB : t.pwmB = t.speed)

theorem MotorEffect.applySpeed_goto (hseq : s.seq = Seq.act) (i : Instr) (v : Level) (q : Code3) :
    MotorEffect i s ((applySpeed s v).goto q) := by
  rw [applySpeed_goto_eq]
  by_cases hl : s.estopLatch = true
  · exact .keeps rfl rfl (if_pos hl) (if_pos hl)
  · exact .follows hseq rfl rfl (if_neg hl) (if_neg hl)

/-- The cases of `exec_next` in its order. -/
theorem exec_motorEffect (h : exec i s = .next t) : MotorEffect i s t := by
  obtain ⟨-, -, rfl⟩ | ⟨-, -, -, rfl⟩ | ⟨-, -, rfl⟩ | ⟨-, -, -, rfl⟩ | ⟨-, -, -, rfl⟩ | ⟨-, rfl⟩ |
    ⟨-, -, rfl⟩ | ⟨-, -, -, rfl⟩ | ⟨-, -, -, rfl⟩ | ⟨-, -, rfl⟩ | ⟨-, -, -, rfl⟩ | ⟨-, -, -, rfl⟩ |
    ⟨-, hseq, -, rfl⟩ | ⟨-, hseq, -, rfl⟩ | ⟨-, -, -, rfl⟩ | ⟨-, -, -, rfl⟩ | ⟨-, -, -, -, rfl⟩ |
    ⟨hi, hseq, -, -, p, hp, rfl⟩ := exec_next h
  -- TICK, its overflow, and the three cases of IR_EDGE
  iterate 5 · exact .keeps rfl rfl rfl rfl
  -- ESTOP_EDGE
  · exact .stops (deEnergized_deEnergize s)
  -- BOOT, DECODE of a complete frame and its hold, DISPATCH
  iterate 4 · exact .keeps rfl rfl rfl rfl
  -- ACT.STOP and the motion entries
  iterate 2 · exact .stops (deEnergized_deEnergize s)
  -- ACT.SPEEDUP and ACT.SLOWDOWN
  iterate 2 · exact .applySpeed_goto hseq _ _ _
  -- ACT.ACC_TOGGLE, SETTLE's hold, and the end of the delay with the latch set
  iterate 3 · exact .keeps rfl rfl rfl rfl
  -- the end of the delay with the latch clear
  · exact .asserts hi hseq p hp rfl rfl rfl rfl

/-- Settles O38: the compare values of each motor effect. -/
theorem compareValuesFollowSpeed : Obligations.CompareValuesFollowSpeed := by
  intro i s t h
  cases exec_motorEffect h with
  | keeps _ _ hpwmA hpwmB => exact .inl ⟨hpwmA, hpwmB⟩
  | stops hout =>
    obtain ⟨-, -, hpwmA, hpwmB⟩ := (deEnergized_iff t).1 hout
    exact .inr (.inl ⟨hpwmA, hpwmB⟩)
  | follows _ _ _ hpwmA hpwmB => exact .inr (.inr ⟨hpwmA, hpwmB⟩)
  | asserts _ _ _ _ _ _ hpwmA hpwmB => exact .inr (.inr ⟨hpwmA, hpwmB⟩)

/-- R92: what leaves a direction register neither as it was nor OFF is SETTLE. -/
theorem exec_dir_cases (h : exec i s = .next t) :
    (i = .settle ∧ s.seq = Seq.settle) ∨
    ((t.dirA = s.dirA ∨ t.dirA = Direction.off) ∧ (t.dirB = s.dirB ∨ t.dirB = Direction.off)) := by
  cases exec_motorEffect h with
  | keeps hdirA hdirB _ _ => exact .inr ⟨.inl hdirA, .inl hdirB⟩
  | stops hout =>
    obtain ⟨hdirA, hdirB, -, -⟩ := (deEnergized_iff t).1 hout
    exact .inr ⟨.inr hdirA, .inr hdirB⟩
  | follows _ hdirA hdirB _ _ => exact .inr ⟨.inl hdirA, .inl hdirB⟩
  | asserts hi hseq _ _ _ _ _ _ => exact .inl ⟨hi, hseq⟩

/-- A register that is kept or made OFF is not reversed, and neither is one that was OFF. -/
theorem not_reversed {d d' : Direction} (h : d = Direction.off ∨ d' = d ∨ d' = Direction.off) :
    ¬ (d = 0b10#2 ∧ d' = 0b01#2) ∧ ¬ (d = 0b01#2 ∧ d' = 0b10#2) := by
  revert d d'
  decide

/-- Settles O28: a direction register is written with a pattern in S_SETTLE alone, where the invariants have
the outputs de-energized. -/
theorem noDirectReversal : Obligations.NoDirectReversal := by
  refine ⟨fun i s t hinv h => ?reversal, fun i s t h hdriven => ?driver,
    fun s hinv hseq => (hinv.settling hseq).2⟩
  case reversal =>
    suffices hdir : (s.dirA = Direction.off ∨ t.dirA = s.dirA ∨ t.dirA = Direction.off) ∧
        (s.dirB = Direction.off ∨ t.dirB = s.dirB ∨ t.dirB = Direction.off) by
      obtain ⟨hA, hA'⟩ := not_reversed hdir.1
      obtain ⟨hB, hB'⟩ := not_reversed hdir.2
      exact ⟨hA, hA', hB, hB'⟩
    obtain ⟨-, hseq⟩ | ⟨hdirA, hdirB⟩ := exec_dir_cases h
    · obtain ⟨hdirA, hdirB, -, -⟩ := (deEnergized_iff s).1 (hinv.settling hseq).2
      exact ⟨.inl hdirA, .inl hdirB⟩
    · exact ⟨.inr hdirA, .inr hdirB⟩
  case driver =>
    obtain ⟨hi, -⟩ | ⟨hdirA, hdirB⟩ := exec_dir_cases h
    · exact hi
    · obtain ⟨hne, hon⟩ | ⟨hne, hon⟩ := hdriven
      · exact absurd hdirA (not_or.2 ⟨hne, hon⟩)
      · exact absurd hdirB (not_or.2 ⟨hne, hon⟩)

/-- R20: what an operation does to the frame index. -/
inductive IndexEffect (i : Instr) (s t : State) : Prop
  | keeps (hidx : t.idx = s.idx)
  /-- An accepted edge with room. -/
  | advances (hi : i = .irEdge) (hgie : s.gie = true) (hroom : s.idx.toNat < 34)
      (hidx : t.idx.toNat = s.idx.toNat + 1)
  /-- BOOT, or the overflowing tick. -/
  | restarts (hi : i = .boot ∨ (i.agent = .clk ∧ s.gie = true ∧ s.wdtCnt = s.cfg.wdtPeriod - 1))
      (hidx : t.idx = 0#6)
  /-- DECODE of a complete frame. -/
  | taken (hi : i = .decode) (hcomplete : s.idx.toNat = 34) (hidx : t.idx = 0#6)

theorem exec_indexEffect (h : exec i s = .next t) : IndexEffect i s t := by
  obtain ⟨-, -, rfl⟩ | ⟨hi, heq, -, rfl⟩ | ⟨-, -, rfl⟩ | ⟨hi, hgie, hroom, rfl⟩ | ⟨-, -, -, rfl⟩ | ⟨-, rfl⟩ |
    ⟨hi, -, rfl⟩ | ⟨hi, -, hcomplete, rfl⟩ | ⟨-, -, -, rfl⟩ | ⟨-, -, rfl⟩ | ⟨-, -, -, rfl⟩ |
    ⟨-, -, -, rfl⟩ | ⟨-, -, -, rfl⟩ | ⟨-, -, -, rfl⟩ | ⟨-, -, -, rfl⟩ | ⟨-, -, -, rfl⟩ | ⟨-, -, -, -, rfl⟩ |
    ⟨-, -, -, -, -, -, rfl⟩ := exec_next h
  -- TICK and its overflow
  · exact .keeps rfl
  · by_cases hgie : s.gie = true
    · have hagent : i.agent = .clk := by obtain rfl | rfl := hi <;> rfl
      exact .restarts (.inr ⟨hagent, hgie, heq⟩) (if_pos hgie)
    · exact .keeps (if_neg hgie)
  -- IR_EDGE: off, with room, and at a full buffer
  · exact .keeps rfl
  · exact .advances hi hgie hroom (storeSample_idx_toNat hroom)
  · exact .keeps rfl
  -- ESTOP_EDGE, BOOT, and DECODE of a complete frame
  · exact .keeps rfl
  · exact .restarts (.inl hi) rfl
  · exact .taken hi hcomplete rfl
  -- the other operations of the sequencer
  all_goals exact .keeps (by simp [applySpeed_eq])

/-- R21: IR_EDGE alone writes the buffer. -/
theorem exec_buf_of_ne_irEdge (h : exec i s = .next t) (hi : i ≠ .irEdge) : t.buf = s.buf := by
  obtain ⟨-, -, -, hwriter, -⟩ := registersHaveOnlyTheirWriters i s t h
  exact not_imp_comm.1 hwriter hi

/-- R21: an operation keeps the buffer, or writes the edge count to one slot. -/
theorem exec_buf (h : exec i s = .next t) :
    t.buf = s.buf ∨ ∃ k, t.buf = writeSlot s.buf k s.edgeCnt := by
  by_cases hi : i = .irEdge
  · subst hi
    obtain ⟨-, rfl⟩ | ⟨-, -, rfl⟩ | ⟨-, -, rfl⟩ := execIrEdge_next h
    · exact .inl rfl
    · exact .inr ⟨_, storeSample_buf s⟩
    · rw [loseSample_eq]
      exact (ite_eq_or_eq _ _ _).symm.imp_right fun hw => ⟨33, hw⟩
  · exact .inl (exec_buf_of_ne_irEdge h hi)

/-- R95: what an operation does to the latch. -/
theorem exec_estopLatch (h : exec i s = .next t) :
    t.estopLatch = s.estopLatch ∨ (i = .estopEdge ∧ t.estopLatch = true) ∨
    (i = .decode ∧ s.idx.toNat = 34 ∧ t.estopLatch = latchAfterDecode s) := by
  obtain ⟨-, -, -, -, -, -, -, -, -, -, -, hwriter, -⟩ := registersHaveOnlyTheirWriters i s t h
  by_cases hkeep : t.estopLatch = s.estopLatch
  · exact .inl hkeep
  obtain rfl | rfl := hwriter hkeep
  · obtain rfl := execEstopEdge_next h
    exact .inr (.inl ⟨rfl, rfl⟩)
  · obtain ⟨-, ⟨hcomplete, rfl⟩ | ⟨-, rfl⟩⟩ := execDecode_next h
    · exact .inr (.inr ⟨rfl, hcomplete, rfl⟩)
    · exact .inl rfl

/-- R59: an operation of the sequencer that answers is the one the sequencer performs in the state. -/
theorem agentInstr_seq_of_exec (h : exec i s = .next t) (hi : i.agent = .seq) :
    agentInstr .seq s = some i := by
  cases i with
  | tick | wdtOvf | irEdge | estopEdge => cases hi
  | boot => exact agentInstr_seq_of_boot (execBoot_next h).1
  | decode => exact agentInstr_seq_of_idle (execDecode_next h).1
  | dispatch => exact agentInstr_seq_of_dispatch (execDispatch_next h).1
  | settle => exact agentInstr_seq_of_settle (execSettle_next h).1
  | actStop | actFwd | actBwd | actLeft | actRight | actSpeedup | actSlowdown | actAccToggle =>
    obtain ⟨hseq, haction, -⟩ := atAct_next h
    rw [agentInstr_seq_of_act hseq, haction]
    rfl

/-- Settles O35: the operations of the other three agents write none of the sequencer's registers but the
counter that the clock counts down. -/
theorem reactionsLeaveSequencer : Obligations.ReactionsLeaveSequencer := by
  intro i s t hi h
  cases i with
  | tick =>
    obtain ⟨-, hovf⟩ | ⟨-, rfl⟩ := execTick_next h
    · obtain ⟨-, rfl⟩ := overflowTick_next hovf
      exact ⟨rfl, rfl, rfl, rfl, rfl, rfl⟩
    · exact ⟨rfl, rfl, rfl, rfl, rfl, rfl⟩
  | wdtOvf =>
    obtain ⟨-, hovf⟩ := execWdtOvf_next h
    obtain ⟨-, rfl⟩ := overflowTick_next hovf
    exact ⟨rfl, rfl, rfl, rfl, rfl, rfl⟩
  | irEdge =>
    obtain ⟨-, rfl⟩ | ⟨-, -, rfl⟩ | ⟨-, -, rfl⟩ := execIrEdge_next h
    · exact ⟨rfl, rfl, rfl, rfl, rfl, rfl⟩
    · exact ⟨rfl, rfl, rfl, rfl, rfl, rfl⟩
    · rw [loseSample_eq]
      exact ⟨rfl, rfl, rfl, rfl, rfl, rfl⟩
  | estopEdge =>
    obtain rfl := execEstopEdge_next h
    exact ⟨rfl, rfl, rfl, rfl, rfl, rfl⟩
  | _ => exact absurd rfl hi

/-- Settles O52: each case of `exec_next` that writes `SEQ` is one of the graph's edges. -/
theorem sequencerMovesAlongGraph : Obligations.SequencerMovesAlongGraph := by
  intro i s t h
  obtain ⟨-, -, rfl⟩ | ⟨-, -, -, rfl⟩ | ⟨-, -, rfl⟩ | ⟨-, -, -, rfl⟩ | ⟨-, -, -, rfl⟩ | ⟨-, rfl⟩ |
    ⟨rfl, hq, rfl⟩ | ⟨rfl, hq, -, rfl⟩ | ⟨-, -, -, rfl⟩ | ⟨rfl, hq, rfl⟩ | ⟨rfl, hq, ha, rfl⟩ |
    ⟨rfl, hm, hq, rfl⟩ | ⟨rfl, hq, ha, rfl⟩ | ⟨rfl, hq, ha, rfl⟩ | ⟨rfl, hq, ha, rfl⟩ | ⟨-, -, -, rfl⟩ |
    ⟨rfl, hq, -, -, rfl⟩ | ⟨rfl, hq, -, -, -, -, rfl⟩ := exec_next h
  -- TICK, its overflow, the three cases of IR_EDGE, and ESTOP_EDGE
  iterate 6 · exact .inl rfl
  -- BOOT, and DECODE of a complete frame
  iterate 2 · exact .inr (by simp [seqEdge, hq])
  -- DECODE's hold
  · exact .inl rfl
  -- DISPATCH
  · exact .inr (by simp [seqEdge, hq])
  -- ACT.STOP
  · exact .inr (by simp [seqEdge, hq, ha, Action.instr, Action.isMotion])
  -- the motion entries
  · exact .inr (by simp [seqEdge, hm, hq])
  -- the other actions
  iterate 3 · exact .inr (by simp [seqEdge, hq, ha, Action.instr, Action.isMotion])
  -- SETTLE's hold
  · exact .inl rfl
  -- the end of the delay with the latch set and with it clear
  iterate 2 · exact .inr (by simp [seqEdge, hq])

/-- R76, R90: the two holds. -/
theorem seqHolds_iff (s : State) : s.seqHolds = true ↔
    (s.seq = Seq.idle ∧ s.idx.toNat < 34) ∨ (s.seq = Seq.settle ∧ 0 < s.settleCnt) := by
  simp only [State.seqHolds, Bool.or_eq_true, Bool.and_eq_true, beq_iff_eq, decide_eq_true_iff]
  rfl

/-- R13, R76, R90: where the sequencer holds its step changes nothing. -/
theorem exec_of_seqHolds (hhold : s.seqHolds = true) (hi : i.agent = .seq) (h : exec i s = .next t) :
    t = s := by
  have hop := agentInstr_seq_of_exec h hi
  obtain ⟨hseq, hroom⟩ | ⟨hseq, hdelay⟩ := (seqHolds_iff s).1 hhold
  · obtain rfl := Option.some.inj ((agentInstr_seq_of_idle hseq).symm.trans hop)
    obtain ⟨-, ⟨hcomplete, -⟩ | ⟨-, ht⟩⟩ := execDecode_next h
    · exact absurd hcomplete hroom.ne
    · exact ht
  · obtain rfl := Option.some.inj ((agentInstr_seq_of_settle hseq).symm.trans hop)
    obtain ⟨-, ⟨-, ht⟩ | ⟨helapsed, -⟩ | ⟨helapsed, -⟩⟩ := execSettle_next h
    · exact ht
    · exact absurd helapsed hdelay.ne'
    · exact absurd helapsed hdelay.ne'

/-- R29: the delay is loaded on the way into S_SETTLE, counted down by the clock, and kept otherwise. -/
theorem exec_settleCnt (h : exec i s = .next t) :
    t.settleCnt = (if i.agent = .clk then s.settleCnt - 1 else s.settleCnt) ∨
    (t.settleCnt = s.cfg.tSettle ∧ t.seq = Seq.settle) := by
  obtain ⟨rfl, -, rfl⟩ | ⟨rfl | rfl, -, -, rfl⟩ | ⟨rfl, -, rfl⟩ | ⟨rfl, -, -, rfl⟩ | ⟨rfl, -, -, rfl⟩ |
    ⟨rfl, rfl⟩ | ⟨rfl, -, rfl⟩ | ⟨rfl, -, -, rfl⟩ | ⟨rfl, -, -, rfl⟩ | ⟨rfl, -, rfl⟩ | ⟨rfl, -, -, rfl⟩ |
    ⟨-, -, -, rfl⟩ | ⟨rfl, -, -, rfl⟩ | ⟨rfl, -, -, rfl⟩ | ⟨rfl, -, -, rfl⟩ | ⟨rfl, -, -, rfl⟩ |
    ⟨rfl, -, -, -, rfl⟩ | ⟨rfl, -, -, -, -, -, rfl⟩ := exec_next h
  -- the clock, the signal, the stop, BOOT, DECODE, DISPATCH and ACT.STOP
  iterate 12 · exact .inl rfl
  -- the motion entries
  · exact .inr ⟨rfl, rfl⟩
  -- ACT.SPEEDUP and ACT.SLOWDOWN
  iterate 2 · exact .inl (by simp [applySpeed_eq, Instr.agent])
  -- ACT.ACC_TOGGLE and SETTLE
  iterate 4 · exact .inl rfl

/-- R81, R90: S_SETTLE is entered by a motion entry, which de-energizes, and left by SETTLE alone. -/
theorem exec_ends_in_settle (h : exec i s = .next t) (ht : t.seq = Seq.settle) :
    t.action = s.action ∧
      ((s.action.isMotion = true ∧ t.deEnergized = true) ∨
       (s.seq = Seq.settle ∧ (t.deEnergized = s.deEnergized ∨ t.deEnergized = true))) := by
  obtain ⟨-, -, rfl⟩ | ⟨-, -, -, rfl⟩ | ⟨-, -, rfl⟩ | ⟨-, -, -, rfl⟩ | ⟨-, -, -, rfl⟩ | ⟨-, rfl⟩ |
    ⟨-, -, rfl⟩ | ⟨-, -, -, rfl⟩ | ⟨-, -, -, rfl⟩ | ⟨-, -, rfl⟩ | ⟨-, -, -, rfl⟩ | ⟨-, hm, -, rfl⟩ |
    ⟨-, -, -, rfl⟩ | ⟨-, -, -, rfl⟩ | ⟨-, -, -, rfl⟩ | ⟨-, -, -, rfl⟩ | ⟨-, -, -, -, rfl⟩ |
    ⟨-, -, -, -, p, -, rfl⟩ := exec_next h
  -- TICK, its overflow, and the three cases of IR_EDGE
  iterate 5 · exact ⟨rfl, .inr ⟨ht, .inl rfl⟩⟩
  -- ESTOP_EDGE
  · exact ⟨rfl, .inr ⟨ht, .inr (deEnergized_deEnergize s)⟩⟩
  -- BOOT, and DECODE: a complete frame, and the hold
  · exact absurd ht Seq.idle_ne_settle
  · exact absurd ht Seq.dispatch_ne_settle
  · exact ⟨rfl, .inr ⟨ht, .inl rfl⟩⟩
  -- DISPATCH and ACT.STOP
  · exact absurd ht Seq.act_ne_settle
  · exact absurd ht Seq.idle_ne_settle
  -- the motion entries
  · exact ⟨rfl, .inl ⟨hm, deEnergized_deEnergize s⟩⟩
  -- the other actions
  iterate 3 · exact absurd ht Seq.idle_ne_settle
  -- SETTLE: the hold, and the end of the delay
  · exact ⟨rfl, .inr ⟨ht, .inl rfl⟩⟩
  iterate 2 · exact absurd ht Seq.idle_ne_settle

end Sys2Proof.Machine
end

section
/-! The invariants of R120. Each item is kept by every operation, by what the operations do to the registers
it speaks of; reset meets them all, and so the step keeps them. -/

namespace Sys2Proof

/-- R56: OFF is a code the rules write. -/
theorem Direction.off_ne_reserved : Direction.off ≠ Direction.reserved := by decide

end Sys2Proof

namespace Sys2Proof.Machine

variable {s t : State} {i : Instr}

/-- Item 1: only an edge with room makes the index larger. -/
theorem Inv.index_exec (hs : Inv s) (h : exec i s = .next t) : t.idx.toNat ≤ nSlots := by
  cases exec_indexEffect h with
  | keeps hidx => rw [hidx]; exact hs.index
  | advances _ _ hroom hidx => rw [hidx]; exact hroom
  | restarts _ hidx => rw [hidx]; exact Nat.zero_le _
  | taken _ _ hidx => rw [hidx]; exact Nat.zero_le _

/-- R58: the graph's edges end in legal codes. -/
theorem seqEdge_legal {a : Action} {q q' : Code3} (h : seqEdge i a q q' = true) :
    Seq.legal q' = true := by
  simp only [seqEdge, Bool.or_eq_true, Bool.and_eq_true, beq_iff_eq] at h
  obtain ((((⟨-, rfl⟩ | ⟨-, rfl⟩) | ⟨-, rfl⟩) | ⟨-, rfl⟩) | ⟨-, rfl⟩) | ⟨-, rfl⟩ := h
  all_goals rfl

/-- R58: out of S_BOOT the graph has BOOT's edge alone. -/
theorem seqEdge_boot {a : Action} {q' : Code3} (h : seqEdge i a Seq.boot q' = true) : i = .boot := by
  simp only [seqEdge, Bool.or_eq_true, Bool.and_eq_true, beq_iff_eq] at h
  obtain ((((⟨⟨hi, -⟩, -⟩ | ⟨⟨-, hq⟩, -⟩) | ⟨⟨-, hq⟩, -⟩) | ⟨⟨-, hq⟩, -⟩) | ⟨⟨-, hq⟩, -⟩) | ⟨⟨-, hq⟩, -⟩ := h
  · exact hi
  all_goals exact absurd hq (by decide)

theorem Inv.seqLegal_exec (hs : Inv s) (h : exec i s = .next t) : Seq.legal t.seq = true := by
  obtain hkeep | hedge := sequencerMovesAlongGraph i s t h
  · rw [hkeep]
    exact hs.seqLegal
  · exact seqEdge_legal hedge

/-- Item 2: BOOT sets `GIE` and leaves S_BOOT, and nothing else does either. -/
theorem Inv.boot_exec (hs : Inv s) (h : exec i s = .next t) : t.seq = Seq.boot ↔ t.gie = false := by
  have hgie := exec_gie h
  by_cases hi : i = .boot
  · rw [if_pos hi] at hgie
    have hleft : t.seq ≠ Seq.boot := fun hboot => (exec_ends_in_boot h hboot).2 hi
    simp [hgie, hleft]
  · rw [if_neg hi] at hgie
    rw [hgie, ← hs.boot]
    refine ⟨fun hboot => (exec_ends_in_boot h hboot).1, fun hboot => ?_⟩
    obtain hkeep | hedge := sequencerMovesAlongGraph i s t h
    · exact hkeep.trans hboot
    · rw [hboot] at hedge
      exact absurd (seqEdge_boot hedge) hi

/-- R31: `GIE` is never cleared. -/
theorem gie_off_of_exec (h : exec i s = .next t) (hoff : t.gie = false) : s.gie = false := by
  rw [exec_gie h] at hoff
  split at hoff
  · cases hoff
  · exact hoff

/-- Item 3: while `GIE` is 0 no edge is accepted, so no operation moves the index off 0. -/
theorem Inv.indexGated_exec (hs : Inv s) (h : exec i s = .next t) (hoff : t.gie = false) :
    t.idx = 0#6 := by
  have hbefore := gie_off_of_exec h hoff
  cases exec_indexEffect h with
  | keeps hidx => exact hidx.trans (hs.indexGated hbefore)
  | advances _ hgie _ _ => exact absurd hgie (by simp [hbefore])
  | restarts _ hidx => exact hidx
  | taken _ _ hidx => exact hidx

/-- Item 5: a compare value is kept, 0, or the speed, which is in its range. -/
theorem Inv.pwm_exec (hs : Inv s) (h : exec i s = .next t) :
    (t.pwmA = 0#8 ∨ (speedMin ≤ t.pwmA.toNat ∧ t.pwmA.toNat ≤ speedMax)) ∧
    (t.pwmB = 0#8 ∨ (speedMin ≤ t.pwmB.toNat ∧ t.pwmB.toNat ≤ speedMax)) := by
  have hspeed : t.speed.toNat ≤ speedMax := exec_speed_le hs.speed.2 h
  obtain ⟨hA, hB⟩ | ⟨hA, hB⟩ | ⟨hA, hB⟩ := compareValuesFollowSpeed i s t h
  · rw [hA, hB]
    exact ⟨hs.pwmA, hs.pwmB⟩
  · exact ⟨.inl hA, .inl hB⟩
  · rw [hA, hB]
    exact ⟨.inr ⟨Nat.zero_le _, hspeed⟩, .inr ⟨Nat.zero_le _, hspeed⟩⟩

/-- R57, R7 (g): no action asserts the reserved direction code. -/
theorem patternOf_ne_reserved {c : Config} {a : Action} {p : Direction × Direction} (hw : c.wf = true)
    (hp : patternOf c a = some p) : p.1 ≠ Direction.reserved ∧ p.2 ≠ Direction.reserved := by
  refine Config.wf_pattern hw p ?_
  cases a with
  | fwd | bwd | left | right => cases hp; simp
  | stop | speedup | slowdown | accToggle => cases hp

/-- Item 6. -/
theorem Inv.dir_exec (hs : Inv s) (h : exec i s = .next t) :
    t.dirA ≠ Direction.reserved ∧ t.dirB ≠ Direction.reserved := by
  cases exec_motorEffect h with
  | keeps hdirA hdirB _ _ => rw [hdirA, hdirB]; exact hs.dir
  | stops hout =>
    obtain ⟨hdirA, hdirB, -, -⟩ := (deEnergized_iff t).1 hout
    rw [hdirA, hdirB]
    exact ⟨Direction.off_ne_reserved, Direction.off_ne_reserved⟩
  | follows _ hdirA hdirB _ _ => rw [hdirA, hdirB]; exact hs.dir
  | asserts _ _ p hp hdirA hdirB _ _ =>
    rw [hdirA, hdirB]
    exact patternOf_ne_reserved hs.config hp

/-- Item 8: S_SETTLE is entered with a motion action over de-energized outputs, and nothing drives them
there. -/
theorem Inv.settling_exec (hs : Inv s) (h : exec i s = .next t) (ht : t.seq = Seq.settle) :
    t.action.isMotion = true ∧ t.deEnergized = true := by
  obtain ⟨haction, ⟨hm, hout⟩ | ⟨hseq, hout⟩⟩ := exec_ends_in_settle h ht
  · exact ⟨haction ▸ hm, hout⟩
  · obtain ⟨hm, hbefore⟩ := hs.settling hseq
    exact ⟨haction ▸ hm, hout.elim (fun hkeep => hkeep.trans hbefore) id⟩

/-- Item 9: the delay is loaded with `T_SETTLE` and only goes down. -/
theorem Inv.settleBound_exec (hs : Inv s) (h : exec i s = .next t) : t.settleCnt ≤ t.cfg.tSettle := by
  have hbound := hs.settleBound
  rw [exec_cfg h]
  obtain hcount | ⟨hload, -⟩ := exec_settleCnt h
  · split at hcount <;> omega
  · exact hload.le

/-- Item 9: while the delay runs the sequencer holds in S_SETTLE, and the other agents leave it there. -/
theorem Inv.settleOnly_exec (hs : Inv s) (h : exec i s = .next t) (hrun : 0 < t.settleCnt) :
    t.seq = Seq.settle := by
  obtain hcount | ⟨-, hseq⟩ := exec_settleCnt h
  · have hrun' : 0 < s.settleCnt := by
      split at hcount <;> omega
    have hseq := hs.settleOnly hrun'
    by_cases hagent : i.agent = .seq
    · rw [exec_of_seqHolds ((seqHolds_iff s).2 (.inr ⟨hseq, hrun'⟩)) hagent h]
      exact hseq
    · exact (reactionsLeaveSequencer i s t hagent h).1.trans hseq
  · exact hseq

/-- Item 10: the timers count within their periods. -/
theorem Inv.counters_exec (hs : Inv s) (h : exec i s = .next t) :
    t.wdtCnt < t.cfg.wdtPeriod ∧ t.edgeCnt < 2 ^ t.cfg.cntWidth := by
  obtain ⟨hwdt, hedge⟩ := hs.counters
  have hperiod := Config.wf_period hs.config
  have hpos : 0 < 2 ^ s.cfg.cntWidth := Nat.two_pow_pos _
  rw [exec_cfg h]
  obtain ⟨-, htedge, htwdt⟩ | ⟨-, htedge, htwdt⟩ | ⟨htedge, htwdt⟩ := exec_timers h
  · refine ⟨?_, htedge ▸ Nat.mod_lt _ hpos⟩
    split at htwdt
    case isTrue => omega
    case isFalse hlast =>
      have hne : s.wdtCnt ≠ s.cfg.wdtPeriod - 1 := fun heq => hlast ((wdtExpires_iff s).2 heq)
      omega
  · rw [htwdt, htedge]
    exact ⟨hperiod, hpos⟩
  · rw [htwdt, htedge]
    exact hs.counters

/-- Item 10: at the full period the two timers agree (R71). -/
theorem Inv.sameCount_exec (hs : Inv s) (h : exec i s = .next t)
    (hfull : t.cfg.wdtPeriod = 2 ^ t.cfg.cntWidth) : t.wdtCnt = t.edgeCnt := by
  rw [exec_cfg h] at hfull
  have hagree : TimersAgree s := ⟨hfull, hs.sameCount hfull, hs.counters.2⟩
  exact (hagree.exec h).agree

/-- R18: a sample is a count of the edge timer, which has W bits. -/
theorem Inv.samples_exec (hs : Inv s) (h : exec i s = .next t) (k : Nat) (hk : k < nSlots) :
    readSlot t.buf k < 2 ^ t.cfg.cntWidth := by
  rw [exec_cfg h]
  obtain hkeep | ⟨j, hwrite⟩ := exec_buf h
  · rw [hkeep]
    exact hs.samples k hk
  · rw [hwrite]
    obtain rfl | hne := eq_or_ne k j
    · rw [readSlot_writeSlot_same _ _ _ hk]
      exact hs.counters.2
    · rw [readSlot_writeSlot_other _ _ _ _ hne]
      exact hs.samples k hk

/-- R120: every operation keeps the invariants. -/
theorem Inv.kept_by_exec (hs : Inv s) (h : exec i s = .next t) : Inv t where
  config := (congrArg Config.wf (exec_cfg h)).trans hs.config
  index := hs.index_exec h
  seqLegal := hs.seqLegal_exec h
  boot := hs.boot_exec h
  indexGated := hs.indexGated_exec h
  speed := ⟨Nat.zero_le _, exec_speed_le hs.speed.2 h⟩
  pwmA := (hs.pwm_exec h).1
  pwmB := (hs.pwm_exec h).2
  dir := hs.dir_exec h
  latch := LatchDeEnergized.exec hs.latch h
  settling := hs.settling_exec h
  settleBound := hs.settleBound_exec h
  settleOnly := hs.settleOnly_exec h
  counters := hs.counters_exec h
  sameCount := hs.sameCount_exec h
  ports := ⟨rfl, rfl⟩
  samples := hs.samples_exec h

/-- No item of R120 speaks of the schedule or of the draws. -/
theorem Inv.of_sameCore {s' : State} (hcore : SameCore s s') (hs : Inv s) : Inv s' := by
  rw [hcore]
  exact { hs with }

/-- Settles O56: the operation a step runs keeps the invariants, and reading the schedule does not touch them. -/
theorem stepKeepsInvariants : Obligations.StepKeepsInvariants := fun _ _ =>
  step_keeps (fun _ _ => .of_sameCore) (fun _ _ _ => .kept_by_exec)

/-- Settles O2: at reset the timers, the index and the outputs are 0, and the other items are the premises. -/
theorem resetMeetsInvariants : Obligations.ResetMeetsInvariants := by
  have hreset : ∀ (c : Config) (buf : FrameBuffer) (cmd : Command) (p : Bool), c.wf = true →
      (∀ k, k < 34 → readSlot buf k < 2 ^ c.cntWidth) → Inv (State.resetWith c buf cmd p) :=
    fun c buf cmd p hwf hbuf =>
    { config := hwf
      index := Nat.zero_le _
      seqLegal := rfl
      boot := ⟨fun _ => rfl, fun _ => rfl⟩
      indexGated := fun _ => rfl
      speed := ⟨Nat.zero_le _, (resetWith_speed_toNat hwf buf cmd p).trans_le (Config.wf_speed hwf)⟩
      pwmA := .inl rfl
      pwmB := .inl rfl
      dir := ⟨Direction.off_ne_reserved, Direction.off_ne_reserved⟩
      latch := latchDeEnergized_resetWith c buf cmd p
      settling := fun hseq => absurd hseq.symm Seq.settle_ne_boot
      settleBound := Nat.zero_le _
      settleOnly := fun hrun => absurd hrun (Nat.lt_irrefl 0)
      counters := ⟨Config.wf_period hwf, Nat.two_pow_pos _⟩
      sameCount := fun _ => rfl
      ports := ⟨rfl, rfl⟩
      samples := hbuf }
  exact ⟨hreset, hreset _ _ _ _ (by decide) (by decide)⟩

end Sys2Proof.Machine
end

section
/-! Progress (R14, R97): in a state that meets the invariants each agent's operation answers. -/

namespace Sys2Proof

/-- R58: the five legal codes. -/
theorem Seq.legal_iff (q : Code3) : Seq.legal q = true ↔
    q = Seq.idle ∨ q = Seq.dispatch ∨ q = Seq.act ∨ q = Seq.settle ∨ q = Seq.boot := by
  simp [Seq.legal, or_assoc]

end Sys2Proof

namespace Sys2Proof.Machine

variable {s t : State} {i : Instr}

/-- R76 (assumption log 10). -/
theorem exec_decode_of_hold (hq : s.seq = Seq.idle) (hi : s.idx.toNat < 34) :
    exec .decode s = .next s := by
  have hpartial : ¬ s.frameComplete = true := fun hc => absurd ((frameComplete_iff s).1 hc) hi.ne
  exact (atSeq_of_eq _ hq).trans ((if_neg hpartial).trans (if_pos hi))

/-- R90 (assumption log 10). -/
theorem exec_settle_of_hold (hq : s.seq = Seq.settle) (hc : 0 < s.settleCnt) :
    exec .settle s = .next s :=
  (atSeq_of_eq _ hq).trans (if_neg hc.ne')

theorem agentInstr_clk_of_expires (h : s.wdtCnt = s.cfg.wdtPeriod - 1) :
    agentInstr .clk s = some .wdtOvf := by
  rw [agentInstr, if_pos ((wdtExpires_iff s).2 h)]

theorem agentInstr_clk_of_not_expires (h : s.wdtCnt ≠ s.cfg.wdtPeriod - 1) :
    agentInstr .clk s = some .tick := by
  rw [agentInstr, if_neg fun he => h ((wdtExpires_iff s).1 he)]

/-- R65, R66: with the index in its range the clock always ticks. -/
theorem clk_answers (hidx : s.idx.toNat ≤ 34) :
    ∃ i t, agentInstr .clk s = some i ∧ exec i s = .next t := by
  by_cases hlast : s.wdtCnt = s.cfg.wdtPeriod - 1
  · exact ⟨_, _, agentInstr_clk_of_expires hlast,
      (exec_wdtOvf_of_expires hlast).trans (overflowTick_of_idx_le hidx)⟩
  · exact ⟨_, _, agentInstr_clk_of_not_expires hlast, exec_tick_of_not_expires hlast⟩

/-- R62 to R64: off, with room, or at a full buffer. -/
theorem irEdge_answers (hidx : s.idx.toNat ≤ 34) : ∃ t, exec .irEdge s = .next t := by
  by_cases hgie : s.gie = true
  · obtain hroom | hfull := Nat.lt_or_eq_of_le hidx
    · exact ⟨_, execIrEdge_stores hgie hroom⟩
    · exact ⟨_, exec_irEdge_of_full hgie hfull⟩
  · exact ⟨_, exec_irEdge_of_disabled (Bool.eq_false_of_not_eq_true hgie)⟩

/-- R58, R80: the multiplexer carries out whichever action is in `ACTION` and moves on, a motion action to
S_SETTLE and another to S_IDLE. -/
theorem act_answers (hq : s.seq = Seq.act) : ∃ t, exec s.action.instr s = .next t ∧
    t.action = s.action ∧ t.idx = s.idx ∧ t.cmd = s.cmd ∧
    t.seq = if s.action.isMotion then Seq.settle else Seq.idle := by
  cases ha : s.action with
  | stop => exact ⟨_, exec_actStop_of_act hq ha, ha, rfl, rfl, rfl⟩
  | fwd | bwd | left | right => exact ⟨_, exec_instr_of_isMotion rfl hq ha, ha, rfl, rfl, rfl⟩
  | speedup =>
    refine ⟨_, exec_actSpeedup_of_act hq ha, ?_⟩
    rw [applySpeed_goto_eq]
    exact ⟨ha, rfl, rfl, rfl⟩
  | slowdown =>
    refine ⟨_, exec_actSlowdown_of_act hq ha, ?_⟩
    rw [applySpeed_goto_eq]
    exact ⟨ha, rfl, rfl, rfl⟩
  | accToggle => exact ⟨_, exec_actAccToggle_of_act hq ha, ha, rfl, rfl, rfl⟩

/-- R90: at the end of the delay the latch is set, or the motion action has its pattern. -/
theorem assertMotion_answers (hm : s.action.isMotion = true) : ∃ t, assertMotion s = .next t := by
  by_cases hl : s.estopLatch = true
  · exact ⟨_, assertMotion_of_latched hl⟩
  · obtain ⟨p, hp⟩ := Option.isSome_iff_exists.1 ((patternOf_isSome s.cfg s.action).trans hm)
    exact ⟨_, assertMotion_of_pattern (Bool.eq_false_of_not_eq_true hl) hp⟩

/-- R58: the sequencer has an operation in each of its five states, and it answers. -/
theorem Inv.seq_answers (hs : Inv s) : ∃ i t, agentInstr .seq s = some i ∧ exec i s = .next t := by
  obtain hq | hq | hq | hq | hq := (Seq.legal_iff s.seq).1 hs.seqLegal
  · obtain hroom | hfull := Nat.lt_or_eq_of_le hs.index
    · exact ⟨_, _, agentInstr_seq_of_idle hq, exec_decode_of_hold hq hroom⟩
    · exact ⟨_, _, agentInstr_seq_of_idle hq, exec_decode_of_complete hq hfull⟩
  · obtain ⟨t, ht⟩ := exec_dispatch_answers hq
    exact ⟨_, t, agentInstr_seq_of_dispatch hq, ht⟩
  · obtain ⟨t, ht, -⟩ := act_answers hq
    exact ⟨_, t, agentInstr_seq_of_act hq, ht⟩
  · obtain helapsed | hrun := Nat.eq_zero_or_pos s.settleCnt
    · obtain ⟨t, ht⟩ := assertMotion_answers (hs.settling hq).1
      exact ⟨_, t, agentInstr_seq_of_settle hq, (exec_settle_of_elapsed hq helapsed).trans ht⟩
    · exact ⟨_, _, agentInstr_seq_of_settle hq, exec_settle_of_hold hq hrun⟩
  · exact ⟨_, _, agentInstr_seq_of_boot hq, exec_boot_of_boot hq⟩

theorem Inv.agent_answers (hs : Inv s) (a : Agent) :
    ∃ i t, agentInstr a s = some i ∧ exec i s = .next t := by
  cases a with
  | clk => exact clk_answers hs.index
  | ir =>
    obtain ⟨t, ht⟩ := irEdge_answers hs.index
    exact ⟨_, t, rfl, ht⟩
  | estop => exact ⟨_, _, rfl, exec_estopEdge s⟩
  | seq => exact hs.seq_answers

/-- Settles O42: progress, and the invariants again by `Inv.kept_by_exec`. -/
theorem everyAgentCanStep : Obligations.EveryAgentCanStep := by
  intro s a hs
  obtain ⟨i, t, ha, ht⟩ := hs.agent_answers a
  exact ⟨i, t, ha, ht, hs.kept_by_exec ht⟩

/-- Settles O15: below 34 samples the sequencer holds; the 34th edge makes the frame complete, and an overflow
empties it. -/
theorem idleSequencerHolds : Obligations.IdleSequencerHolds := by
  intro s hq
  have hfree : ∀ u : State, u.seq = Seq.idle → u.idx.toNat = 34 → u.seqHolds = false := by
    intro u hu hfull
    refine Bool.eq_false_iff.2 fun hhold => ?_
    obtain ⟨-, hroom⟩ | ⟨hsettle, -⟩ := (seqHolds_iff u).1 hhold
    · exact absurd hfull hroom.ne
    · exact Seq.idle_ne_settle (hu.symm.trans hsettle)
  refine ⟨fun hroom => ⟨(seqHolds_iff s).2 (.inl ⟨hq, hroom⟩), agentInstr_seq_of_idle hq,
    exec_decode_of_hold hq hroom⟩, fun hlast hgie => ?last, hfree s hq, fun hfull hgie hwdt => ?overflow⟩
  case last =>
    have hroom : s.idx.toNat < 34 := by omega
    exact ⟨_, execIrEdge_stores hgie hroom,
      hfree _ hq ((storeSample_idx_toNat hroom).trans (congrArg (· + 1) hlast))⟩
  case overflow =>
    refine ⟨_, (exec_wdtOvf_of_expires hwdt).trans (overflowTick_of_idx_le hfull.le), ?_⟩
    refine (seqHolds_iff _).2 (.inl ⟨hq, ?_⟩)
    simp [hgie]

/-- Settles O26: while the delay runs SETTLE answers the state itself, and a tick counts it down. -/
theorem settlingSequencerHolds : Obligations.SettlingSequencerHolds := by
  intro s hq hrun
  refine ⟨agentInstr_seq_of_settle hq, exec_settle_of_hold hq hrun, fun hne =>
    ⟨_, exec_tick_of_not_expires hne, Nat.sub_add_cancel hrun, ?_⟩⟩
  have hq' : (s.countTick.setWdt (s.wdtCnt + 1)).seq = Seq.settle := hq
  rw [seqHolds_of_settle hq']
  exact Nat.sub_pos_iff_lt

end Sys2Proof.Machine
end

section
/-! The emergency stop along a run (`45_estop.md` R93 to R96): a stopped core stays stopped until a DECODE
releases the latch. And R47: the stop and the capture write different registers, so their order is not seen in
them. -/

namespace Sys2Proof.Machine

variable {s t u v : State} {i : Instr} {is : List Instr}

/-- What each operation of a run keeps holds along it. -/
theorem Path.keeps_of_mem {P : State → Prop}
    (hexec : ∀ i ∈ is, ∀ s t, P s → exec i s = .next t → P t) (h : Path is s t) (hs : P s) : P t := by
  induction is generalizing s with
  | nil => cases h; exact hs
  | cons i is ih =>
    obtain ⟨-, m, he, hp⟩ := h
    exact ih (fun j hj => hexec j (List.mem_cons_of_mem i hj)) hp (hexec i List.mem_cons_self s m hs he)

/-- The core after an emergency stop: the latch set over de-energized outputs. -/
structure Stopped (s : State) : Prop where
  out : s.deEnergized = true
  latch : s.estopLatch = true

/-- R94: an operation that leaves the latch set leaves the outputs de-energized. -/
theorem Stopped.of_latch (hs : Stopped s) (h : exec i s = .next t) (hl : t.estopLatch = true) :
    Stopped t :=
  ⟨LatchDeEnergized.exec (fun _ => hs.out) h hl, hl⟩

/-- R95: what clears the latch is DECODE of a complete frame under NEXT_DECODE. -/
theorem exec_clears_latch (h : exec i s = .next t) (hs : s.estopLatch = true)
    (ht : t.estopLatch = false) :
    i = .decode ∧ s.cfg.estopRelease = .nextDecode ∧ s.idx.toNat = 34 := by
  obtain hkeep | ⟨-, hset⟩ | ⟨hi, hcomplete, hdecode⟩ := exec_estopLatch h
  · exact absurd (hs.symm.trans (hkeep.symm.trans ht)) (by decide)
  · exact absurd (hset.symm.trans ht) (by decide)
  · refine ⟨hi, ?_, hcomplete⟩
    by_contra hnever
    rw [latchAfterDecode_eq, if_neg hnever, hs] at hdecode
    exact absurd (hdecode.symm.trans ht) (by decide)

theorem Stopped.exec_of_not_decode (hi : i ≠ .decode) (hs : Stopped s) (h : exec i s = .next t) :
    Stopped t :=
  hs.of_latch h <| by
    by_contra hl
    exact hi (exec_clears_latch h hs.latch (Bool.eq_false_of_not_eq_true hl)).1

/-- Settles O33: the stop stops the core, and every operation but DECODE keeps it stopped. -/
theorem estopOverridesCommandInProgress : Obligations.EstopOverridesCommandInProgress := by
  intro is s u t hstop hpath hno
  obtain rfl := execEstopEdge_next hstop
  have hu : Stopped ((s.deEnergize.setLatch true).emit .estop) := ⟨deEnergized_deEnergize s, rfl⟩
  have ht : Stopped t := hpath.keeps_of_mem
    (fun i hi _ _ => Stopped.exec_of_not_decode fun hd => hno (hd ▸ hi)) hu
  exact ⟨ht.out, ht.latch⟩

/-- Settles O32: the operation that clears the latch, that it does, and NEVER along a run. -/
theorem latchReleasedOnlyByDecode : Obligations.LatchReleasedOnlyByDecode := by
  refine ⟨fun i s t => exec_clears_latch, fun s hq hi hr => ⟨_, exec_decode_of_complete hq hi, ?released⟩,
    fun is s t hpath hnever hl hout => ?never⟩
  case released =>
    exact (latchAfterDecode_eq s).trans (if_pos hr)
  case never =>
    have hkept : ∀ i u v, (u.cfg.estopRelease = .never ∧ Stopped u) → exec i u = .next v →
        v.cfg.estopRelease = .never ∧ Stopped v := by
      intro i u v ⟨hu, hstopped⟩ h
      refine ⟨(congrArg _ (exec_cfg h)).trans hu, hstopped.of_latch h ?_⟩
      by_contra hl
      obtain ⟨-, hnext, -⟩ := exec_clears_latch h hstopped.latch (Bool.eq_false_of_not_eq_true hl)
      exact absurd (hu.symm.trans hnext) (by decide)
    obtain ⟨-, ht⟩ := hpath.keeps hkept ⟨hnever, hout, hl⟩
    exact ⟨ht.latch, ht.out⟩

/-- The state an ESTOP_EDGE leaves (`exec_estopEdge`). -/
def State.stop (s : State) : State :=
  (s.deEnergize.setLatch true).emit .estop

theorem exec_estopEdge_stop (s : State) : exec .estopEdge s = .next s.stop := rfl

/-- The overflow reads and writes no register of the stop. -/
theorem overflowTick_stop (h : overflowTick s = .next v) :
    ∃ t, overflowTick s.stop = .next t ∧ t.registers = v.stop.registers := by
  obtain ⟨hrange, rfl⟩ := overflowTick_next h
  exact ⟨_, overflowTick_eq s.stop hrange, rfl⟩

/-- Settles O34: each case of the capture is the same case after the stop. -/
theorem estopCommutesWithCapture : Obligations.EstopCommutesWithCapture := by
  intro i s u v hi hstop hcapture
  obtain rfl := execEstopEdge_next hstop
  suffices hcomm : ∃ t, exec i s.stop = .next t ∧ t.registers = v.stop.registers by
    obtain ⟨t, ht, hreg⟩ := hcomm
    exact ⟨t, v.stop, ht, exec_estopEdge_stop v, hreg⟩
  obtain rfl | rfl | rfl := hi
  case inl =>
    obtain ⟨hlast, hovf⟩ | ⟨hne, rfl⟩ := execTick_next hcapture
    · rw [exec_tick_of_expires (s := s.stop) hlast]
      exact overflowTick_stop hovf
    · exact ⟨_, exec_tick_of_not_expires (s := s.stop) hne, rfl⟩
  case inr.inl =>
    obtain ⟨hlast, hovf⟩ := execWdtOvf_next hcapture
    rw [exec_wdtOvf_of_expires (s := s.stop) hlast]
    exact overflowTick_stop hovf
  case inr.inr =>
    obtain ⟨hoff, rfl⟩ | ⟨hgie, hroom, rfl⟩ | ⟨hgie, hfull, rfl⟩ := execIrEdge_next hcapture
    · exact ⟨_, exec_irEdge_of_disabled (s := v.stop) hoff, rfl⟩
    · exact ⟨_, execIrEdge_stores (s := s.stop) hgie hroom, rfl⟩
    · refine ⟨_, exec_irEdge_of_full (s := s.stop) hgie hfull, ?_⟩
      rw [loseSample_eq, loseSample_eq]
      rfl

end Sys2Proof.Machine
end

section
/-! The settling delay along a run (`44_actuator.md` R90, R92), and the way of a complete frame through the
sequencer (R58, R73, R77). -/

namespace Sys2Proof.Machine

variable {s t : State} {i : Instr} {is : List Instr}

/-- R65, R66: a step of the clock is one of the two tick operations. -/
theorem ticksIn_cons (i : Instr) (is : List Instr) :
    ticksIn (i :: is) = ticksIn is + if i.agent = .clk then 1 else 0 := by
  by_cases hclk : i.agent = .clk
  · rw [if_pos hclk, ticksIn, ticksIn]
    obtain rfl | rfl := eq_tick_or_wdtOvf_of_agent hclk
    · rw [List.count_cons_self, List.count_cons_of_ne (by decide), Nat.add_right_comm]
    · rw [List.count_cons_self, List.count_cons_of_ne (by decide), Nat.add_assoc]
  · obtain ⟨htick, hovf⟩ := ne_tick_of_agent hclk
    rw [if_neg hclk, ticksIn, ticksIn, List.count_cons_of_ne htick, List.count_cons_of_ne hovf,
      Nat.add_zero]

/-- R90, R92: one step while the delay runs. The sequencer's own step is a hold. -/
theorem exec_while_settling (hq : s.seq = Seq.settle) (hout : s.deEnergized = true) (hrun : 0 < s.settleCnt)
    (h : exec i s = .next t) :
    t.seq = Seq.settle ∧ t.settleCnt + (if i.agent = .clk then 1 else 0) = s.settleCnt ∧
      t.deEnergized = true ∧ t.action = s.action ∧ t.speed = s.speed := by
  by_cases hagent : i.agent = .seq
  · obtain rfl := exec_of_seqHolds ((seqHolds_iff s).2 (.inr ⟨hq, hrun⟩)) hagent h
    exact ⟨hq, by simp [hagent], hout, rfl, rfl⟩
  · obtain ⟨hseq, haction, hspeed, -, -, hcount⟩ := reactionsLeaveSequencer i s t hagent h
    have hcnt : t.settleCnt + (if i.agent = .clk then 1 else 0) = s.settleCnt := by
      by_cases hclk : i.agent = .clk
      · rw [if_pos hclk] at hcount ⊢
        omega
      · rw [if_neg hclk] at hcount ⊢
        exact hcount
    obtain ⟨-, ⟨-, hstop⟩ | ⟨-, hkeep | hstop⟩⟩ := exec_ends_in_settle h (hseq.trans hq)
    · exact ⟨hseq.trans hq, hcnt, hstop, haction, hspeed⟩
    · exact ⟨hseq.trans hq, hcnt, hkeep.trans hout, haction, hspeed⟩
    · exact ⟨hseq.trans hq, hcnt, hstop, haction, hspeed⟩

/-- Settles O29: by induction over the run; as long as ticks are left the delay is above 0. -/
theorem settlingDelayIsKept : Obligations.SettlingDelayIsKept := by
  intro is
  induction is with
  | nil =>
    rintro s t rfl hq hout -
    exact ⟨hq, rfl, hout, rfl, rfl⟩
  | cons i is ih =>
    rintro s t ⟨-, m, he, hp⟩ hq hout hticks
    rw [ticksIn_cons] at hticks ⊢
    obtain ⟨hmq, hmcnt, hmout, hmaction, hmspeed⟩ := exec_while_settling hq hout (by omega) he
    obtain ⟨htq, htcnt, htout, htaction, htspeed⟩ := ih m t hp hmq hmout (by omega)
    exact ⟨htq, by omega, htout, htaction.trans hmaction, htspeed.trans hmspeed⟩

/-- R77: an index goes up by one with each edge and by nothing else. -/
theorem Path.idx_le (h : Path is s t) : t.idx.toNat ≤ s.idx.toNat + is.count .irEdge := by
  induction is generalizing s with
  | nil => cases h; simp
  | cons i is ih =>
    obtain ⟨-, m, he, hp⟩ := h
    have hrest := ih hp
    have hcount : is.count .irEdge ≤ (i :: is).count .irEdge := List.count_le_count_cons
    cases exec_indexEffect he with
    | keeps hidx => rw [hidx] at hrest; omega
    | advances hi _ _ hidx =>
      subst hi
      rw [hidx] at hrest
      rw [List.count_cons_self]
      omega
    | restarts _ hidx => simp only [hidx, BitVec.toNat_zero] at hrest; omega
    | taken _ _ hidx => simp only [hidx, BitVec.toNat_zero] at hrest; omega

/-- R66, R98: the overflow that discards a complete frame reports its 34 samples. -/
theorem emitted_of_overflow_full (hi : i = .tick ∨ i = .wdtOvf) (hlast : s.wdtCnt = s.cfg.wdtPeriod - 1)
    (hgie : s.gie = true) (hfull : s.idx.toNat = 34) : emitted i s = [.frameAbort 34] := by
  obtain rfl | rfl := hi
  all_goals simp [emitted, hlast, hgie, hfull]

/-- Settles O17: the effects on an index of 34, with what each operation that leaves it says of the other
registers. Under the invariants BOOT never finds a complete frame. -/
theorem completeFrameIsDecodedOnce : Obligations.CompleteFrameIsDecodedOnce := by
  refine ⟨fun i s t hinv hfull h => ?left, fun is s t hpath h0 h34 => ?edges⟩
  case edges =>
    have hle := hpath.idx_le
    rw [h34, h0] at hle
    simpa using hle
  case left =>
    cases exec_indexEffect h with
    | keeps hidx => exact .inl (hidx ▸ hfull)
    | advances _ _ hroom _ => exact absurd hfull hroom.ne
    | taken hi _ hidx =>
      subst hi
      have hcmd := exec_decode_cmd h hfull
      refine .inr (.inl ⟨rfl, hidx, hcmd, ?_⟩)
      rw [exec_events h, hcmd, emitted, if_pos hfull]
    | restarts hi hidx =>
      obtain rfl | ⟨hagent, hgie, hlast⟩ := hi
      · have hempty := hinv.indexGated (hinv.boot.1 (execBoot_next h).1)
        exact absurd (hempty ▸ hfull) (by decide)
      · have hop := eq_tick_or_wdtOvf_of_agent hagent
        obtain ⟨-, -, -, -, hcmd, -⟩ := reactionsLeaveSequencer i s t (by simp [hagent]) h
        refine .inr (.inr ⟨hop, hlast, hidx, hcmd, ?_⟩)
        rw [exec_events h, emitted_of_overflow_full hop hlast hgie hfull]

/-- Settles O57: DECODE, DISPATCH and the action selected, each where the one before leaves the sequencer. -/
theorem completeFrameIsCarriedOut : Obligations.CompleteFrameIsCarriedOut := by
  intro s hinv hq hfull a
  have hdecode := exec_decode_of_complete hq hfull
  obtain ⟨m, hdispatch⟩ := exec_dispatch_answers (s := takeFrame s) rfl
  obtain ⟨-, hm⟩ := execDispatch_next hdispatch
  have hmq : m.seq = Seq.act := congrArg State.seq hm
  have hma : m.action = a := congrArg State.action hm
  obtain ⟨t, hact, htaction, htidx, htcmd, htseq⟩ := act_answers hmq
  rw [hma] at hact htaction htseq
  have hop : agentInstr a.instr.agent m = some a.instr := by
    rw [agent_instr, agentInstr_seq_of_act hmq, hma]
  have hpath : Path [.decode, .dispatch, a.instr] s t :=
    ⟨agentInstr_seq_of_idle hq, _, hdecode, agentInstr_seq_of_dispatch rfl, m, hdispatch, hop, t, hact, rfl⟩
  exact ⟨t, hpath, htaction, htidx.trans (congrArg State.idx hm), htcmd.trans (congrArg State.cmd hm), htseq⟩

end Sys2Proof.Machine
end

section
/-! Runs of ticks (`41_capture.md` R65 to R67, R70): the state after g of them in closed form. -/

namespace Sys2Proof.Machine

variable {s t : State} {i : Instr} {is : List Instr} {a g n p : Nat}

/-- The state after g ticks and nothing else (R67, R70): the timers modulo their periods, and one frame
abandoned if the watchdog's period is reached with the events on. -/
def State.ticked (s : State) (g : Nat) : State :=
  { s with
    wdtCnt := (s.wdtCnt + g) % s.cfg.wdtPeriod
    edgeCnt := (s.edgeCnt + g) % 2 ^ s.cfg.cntWidth
    settleCnt := s.settleCnt - g
    idx := if s.gie = true ∧ s.cfg.wdtPeriod ≤ s.wdtCnt + g then 0#6 else s.idx
    events := s.events ++
      if (s.gie = true ∧ s.cfg.wdtPeriod ≤ s.wdtCnt + g) ∧ 0 < s.idx.toNat then
        [.frameAbort s.idx.toNat]
      else [] }

/-- Short of the watchdog's period only the counters move. -/
theorem ticked_of_short (h : s.wdtCnt + g < s.cfg.wdtPeriod) : s.ticked g =
    { s with
      wdtCnt := s.wdtCnt + g
      edgeCnt := (s.edgeCnt + g) % 2 ^ s.cfg.cntWidth
      settleCnt := s.settleCnt - g } := by
  have hno : ¬ (s.gie = true ∧ s.cfg.wdtPeriod ≤ s.wdtCnt + g) := fun hp => absurd hp.2 (Nat.not_le.2 h)
  simp only [State.ticked, Nat.mod_eq_of_lt h, hno, false_and, if_false, List.append_nil]

theorem ticked_zero (hs : Inv s) : s.ticked 0 = s := by
  obtain ⟨hwdt, hedge⟩ := hs.counters
  rw [ticked_of_short hwdt, Nat.add_zero, Nat.add_zero, Nat.mod_eq_of_lt hedge, Nat.sub_zero]

/-- A count one short of a multiple of its period is the one whose successor wraps. -/
theorem succ_mod_of_last (h : a % p = p - 1) (hp : 0 < p) : (a + 1) % p = 0 := by
  rw [← Nat.mod_add_mod]
  exact (succ_mod_eq_zero_iff (Nat.mod_lt a hp)).2 h

theorem succ_mod_of_not_last (h : a % p ≠ p - 1) (hp : 0 < p) : (a + 1) % p = a % p + 1 := by
  have hlt := Nat.mod_lt a hp
  rw [← Nat.mod_add_mod, Nat.mod_eq_of_lt (by omega)]

/-- R70: the overflows of a run are the multiples of the period it passes. -/
theorem succ_div_eq (hp : 0 < p) : (a + 1) / p = a / p + if a % p = p - 1 then 1 else 0 := by
  have hdvd : p ∣ a + 1 ↔ a % p = p - 1 := by
    rw [Nat.dvd_iff_mod_eq_zero, ← Nat.mod_add_mod, succ_mod_eq_zero_iff (Nat.mod_lt a hp)]
  rw [Nat.succ_div]
  simp only [hdvd]

/-- A tick that counts. -/
theorem ticked_counts (hp : 0 < s.cfg.wdtPeriod)
    (h : (s.wdtCnt + g) % s.cfg.wdtPeriod ≠ s.cfg.wdtPeriod - 1) :
    ((s.ticked g).countTick.setWdt ((s.ticked g).wdtCnt + 1)) = s.ticked (g + 1) := by
  have hreach : s.cfg.wdtPeriod ≤ s.wdtCnt + g + 1 ↔ s.cfg.wdtPeriod ≤ s.wdtCnt + g := by
    refine ⟨fun hle => ?_, fun hle => by omega⟩
    by_contra hlt
    rw [Nat.mod_eq_of_lt (by omega)] at h
    omega
  simp only [State.ticked, State.countTick, State.setWdt, ← Nat.add_assoc, hreach, Nat.mod_add_mod,
    succ_mod_of_not_last h hp, Nat.sub_sub]

/-- The tick that overflows: the frame is abandoned at the first, and later ones find no samples. -/
theorem ticked_overflows (hs : Inv s)
    (h : (s.wdtCnt + g) % s.cfg.wdtPeriod = s.cfg.wdtPeriod - 1) :
    overflowTick (s.ticked g) = .next (s.ticked (g + 1)) := by
  have hp := Config.wf_period hs.config
  have hle := Nat.mod_le (s.wdtCnt + g) s.cfg.wdtPeriod
  have hreach : s.cfg.wdtPeriod ≤ s.wdtCnt + g + 1 := by omega
  have hrange : (s.ticked g).idx.toNat ≤ 34 := by
    simp only [State.ticked]
    split
    · exact Nat.zero_le _
    · exact hs.index
  rw [overflowTick_eq _ fun _ => hrange]
  by_cases hgie : s.gie = true
  · by_cases hbefore : s.cfg.wdtPeriod ≤ s.wdtCnt + g
    · simp [State.ticked, ← Nat.add_assoc, hgie, hbefore, hreach, succ_mod_of_last h hp, Nat.sub_sub]
    · simp [State.ticked, ← Nat.add_assoc, hgie, hbefore, hreach, succ_mod_of_last h hp, Nat.sub_sub]
  · simp [State.ticked, ← Nat.add_assoc, hgie, succ_mod_of_last h hp, Nat.sub_sub]

/-- The clock's operation after g ticks, and whether it is an overflow. -/
theorem ticked_step (hs : Inv s) (g : Nat) : ∃ i, i.agent = .clk ∧ agentInstr .clk (s.ticked g) = some i ∧
    exec i (s.ticked g) = .next (s.ticked (g + 1)) ∧
    (s.wdtCnt + (g + 1)) / s.cfg.wdtPeriod = (s.wdtCnt + g) / s.cfg.wdtPeriod + [i].count .wdtOvf := by
  have hp := Config.wf_period hs.config
  rw [← Nat.add_assoc, succ_div_eq hp]
  by_cases hlast : (s.wdtCnt + g) % s.cfg.wdtPeriod = s.cfg.wdtPeriod - 1
  · exact ⟨.wdtOvf, rfl, agentInstr_clk_of_expires hlast,
      (exec_wdtOvf_of_expires hlast).trans (ticked_overflows hs hlast), by rw [if_pos hlast]; rfl⟩
  · refine ⟨.tick, rfl, agentInstr_clk_of_not_expires hlast, ?_, by rw [if_neg hlast]; rfl⟩
    rw [exec_tick_of_not_expires hlast, ticked_counts hp hlast]

/-- R70: g consecutive ticks form a run to the closed form. -/
theorem Inv.tick_path (hs : Inv s) (g : Nat) : ∃ is, Path is s (s.ticked g) ∧
    is.map Instr.agent = List.replicate g .clk ∧
    is.count .wdtOvf = (s.wdtCnt + g) / s.cfg.wdtPeriod := by
  induction g with
  | zero =>
    rw [ticked_zero hs]
    exact ⟨[], rfl, rfl, (Nat.div_eq_of_lt hs.counters.1).symm⟩
  | succ g ih =>
    obtain ⟨is, hpath, hagents, hcount⟩ := ih
    obtain ⟨i, hi, hagent, hexec, hdiv⟩ := ticked_step hs g
    rw [← hi] at hagent
    refine ⟨is ++ [i], hpath.append (.one hagent hexec), ?_, ?_⟩
    · rw [List.map_append, hagents, List.replicate_succ', List.map_singleton, hi]
    · rw [List.count_append, hcount, hdiv]

/-- Settles O7: the closed form `State.ticked` is the run's end. -/
theorem tickRunOverflowsEveryPeriod : Obligations.TickRunOverflowsEveryPeriod := by
  intro s g hs
  obtain ⟨is, hpath, hagents, hcount⟩ := hs.tick_path g
  exact ⟨is, s.ticked g, hpath, hagents, hcount, rfl, rfl, rfl, rfl, rfl⟩

end Sys2Proof.Machine
end

section
/-! Gaps and frames (`41_capture.md` R62, R72, `70_reset_and_hazards.md` R114): a gap is a run of ticks and
the edge that ends it; the gaps of a transmission after its first are short. -/

namespace Sys2Proof.Machine

variable {s t : State} {is : List Instr} {g : Nat} {gs : List Nat}

/-- The state after a gap of g ticks and its edge, where there is room for the sample. -/
def State.gapped (s : State) (g : Nat) : State :=
  storeSample (s.ticked g)

/-- R72: a gap with room is a run. -/
theorem Inv.gap_path (hs : Inv s) (hgie : s.gie = true) (hroom : (s.ticked g).idx.toNat < 34) :
    ∃ is, Path is s (s.gapped g) ∧ is.map Instr.agent = gapAgents g := by
  obtain ⟨is, hpath, hagents, -⟩ := hs.tick_path g
  refine ⟨is ++ [.irEdge], hpath.append (.one rfl (execIrEdge_stores (s := s.ticked g) hgie hroom)), ?_⟩
  rw [List.map_append, hagents]
  rfl

/-- R70: a gap that reaches the watchdog's period leaves no sample. -/
theorem ticked_idx_of_long (hgie : s.gie = true) (hlong : s.cfg.wdtPeriod ≤ s.wdtCnt + g) :
    (s.ticked g).idx = 0#6 :=
  if_pos ⟨hgie, hlong⟩

theorem ticked_idx_of_short (h : s.wdtCnt + g < s.cfg.wdtPeriod) : (s.ticked g).idx = s.idx := by
  rw [ticked_of_short h]

/-- Without samples no gap is too long. -/
theorem ticked_idx_of_empty (h : s.idx = 0#6) : (s.ticked g).idx = 0#6 :=
  (ite_eq_or_eq _ _ _).elim id fun hkeep => hkeep.trans h

/-- R66, R98: without samples no frame is abandoned. -/
theorem ticked_events_of_empty (h : s.idx = 0#6) : (s.ticked g).events = s.events := by
  simp [State.ticked, h]

/-- R66: a gap that reaches the watchdog's period reports the samples held, once. -/
theorem ticked_events_of_long (hgie : s.gie = true) (hlong : s.cfg.wdtPeriod ≤ s.wdtCnt + g) :
    (s.ticked g).events = s.events ++ if s.idx.toNat > 0 then [.frameAbort s.idx.toNat] else [] := by
  simp [State.ticked, hgie, hlong]

/-- R72: the edge after a gap that left no sample stores the first of a new frame. -/
theorem gapped_of_empty (h : (s.ticked g).idx = 0#6) :
    (s.gapped g).idx.toNat = 1 ∧
      readSlot (s.gapped g).buf 0 = (s.edgeCnt + g) % 2 ^ s.cfg.cntWidth := by
  have hidx : (s.ticked g).idx.toNat = 0 := by rw [h]; rfl
  refine ⟨(storeSample_idx_toNat (by omega)).trans (congrArg (· + 1) hidx), ?_⟩
  rw [State.gapped, storeSample_buf, hidx]
  exact readSlot_writeSlot_same _ _ _ (by decide)

/-- Settles O9: the ticks take the watchdog to its period, so the edge finds no sample. -/
theorem longGapRestartsFrame : Obligations.LongGapRestartsFrame := by
  intro s g hs hgie hlong
  have hempty : (s.ticked g).idx = 0#6 := ticked_idx_of_long hgie hlong
  obtain ⟨is, hpath, hagents⟩ := hs.gap_path (g := g) hgie (by rw [hempty]; decide)
  obtain ⟨hidx, hslot⟩ := gapped_of_empty hempty
  exact ⟨is, s.gapped g, hpath, hagents, hidx, hslot, ticked_events_of_long hgie hlong⟩

/-- R72: `t` is `s` with the gaps `gs` captured in the next slots, and the delay counted down. -/
structure Captured (gs : List Nat) (s t : State) : Prop where
  idx : t.idx.toNat = s.idx.toNat + gs.length
  earlier : ∀ k, k < s.idx.toNat → readSlot t.buf k = readSlot s.buf k
  slots : ∀ k, k < gs.length →
    readSlot t.buf (s.idx.toNat + k) = gs.getD k 0 % 2 ^ s.cfg.cntWidth
  frame : t = { s with buf := t.buf, idx := t.idx, settleCnt := s.settleCnt - gs.sum }

/-- R67, R72: from an edge on, a short gap is captured as it is, modulo 2^W. -/
theorem captured_short_gap (hwdt : s.wdtCnt = 0) (hedge : s.edgeCnt = 0) (hroom : s.idx.toNat < 34)
    (hshort : g < s.cfg.wdtPeriod) : Captured [g] s (s.gapped g) := by
  have hticked := ticked_of_short (s := s) (g := g) (by omega)
  have hslot : (s.gapped g).buf = writeSlot s.buf s.idx.toNat (g % 2 ^ s.cfg.cntWidth) := by
    rw [State.gapped, hticked, hedge, Nat.zero_add]
    rfl
  constructor
  case idx =>
    rw [State.gapped, hticked]
    exact storeSample_idx_toNat hroom
  case earlier =>
    intro k hk
    rw [hslot, readSlot_writeSlot_other _ _ _ _ hk.ne]
  case slots =>
    intro k hk
    obtain rfl : k = 0 := by simpa using hk
    rw [hslot, Nat.add_zero, readSlot_writeSlot_same _ _ _ hroom]
    rfl
  case frame =>
    rw [State.gapped, hticked, storeSample_frame]
    simp [hwdt, hedge]

/-- A gap captured before others. -/
theorem Captured.cons {m : State} (hg : Captured [g] s m) (hgs : Captured gs m t) :
    Captured (g :: gs) s t := by
  have hcfg : m.cfg = s.cfg := by rw [hg.frame]
  have hidx : m.idx.toNat = s.idx.toNat + 1 := hg.idx
  constructor
  case idx =>
    rw [hgs.idx, hidx, List.length_cons]
    omega
  case earlier =>
    intro k hk
    rw [hgs.earlier k (by omega), hg.earlier k hk]
  case slots =>
    intro k hk
    cases k with
    | zero =>
      rw [hgs.earlier _ (by omega)]
      exact hg.slots 0 Nat.zero_lt_one
    | succ k =>
      have hslot := hgs.slots k (Nat.lt_of_succ_lt_succ hk)
      rw [hidx, hcfg] at hslot
      rw [← Nat.add_assoc, Nat.add_right_comm, hslot]
      rfl
  case frame =>
    rw [hgs.frame, hg.frame]
    simp [Nat.sub_sub]

/-- R72: short gaps from an edge on are captured one by one. -/
theorem Inv.short_gaps_path (hs : Inv s) (hgie : s.gie = true) (hwdt : s.wdtCnt = 0)
    (hedge : s.edgeCnt = 0) (hroom : s.idx.toNat + gs.length ≤ 34)
    (hshort : ∀ g ∈ gs, g < s.cfg.wdtPeriod) :
    ∃ is t, Path is s t ∧ is.map Instr.agent = gs.flatMap gapAgents ∧ Captured gs s t := by
  induction gs generalizing s with
  | nil => exact ⟨[], s, rfl, rfl, rfl, fun _ _ => rfl, fun _ hk => absurd hk (Nat.not_lt_zero _), rfl⟩
  | cons g gs ih =>
    rw [List.length_cons] at hroom
    have hfirst := hshort g List.mem_cons_self
    have hg : Captured [g] s (s.gapped g) := captured_short_gap hwdt hedge (by omega) hfirst
    have hkept : (s.ticked g).idx = s.idx := ticked_idx_of_short (by omega)
    have hidx : (s.gapped g).idx.toNat = s.idx.toNat + 1 := hg.idx
    obtain ⟨is, hpath, hagents⟩ := hs.gap_path (g := g) hgie (by rw [hkept]; omega)
    obtain ⟨js, t, hpath', hagents', hgs⟩ := ih (s := s.gapped g)
      (hpath.keeps (fun _ _ _ => Inv.kept_by_exec) hs) hgie rfl rfl (by omega)
      fun g' hg' => hshort g' (List.mem_cons_of_mem g hg')
    refine ⟨is ++ js, t, hpath.append hpath', ?_, hg.cons hgs⟩
    rw [List.map_append, hagents, hagents', List.flatMap_cons]

/-- R72, R114: a first gap that leaves no sample, and 33 short ones, complete a frame. -/
theorem Inv.frame_path (hs : Inv s) (hgie : s.gie = true) (hempty : (s.ticked g).idx = 0#6)
    (hlen : gs.length = 33) (hshort : ∀ g ∈ gs, g < s.cfg.wdtPeriod) :
    ∃ is t, Path is s t ∧ is.map Instr.agent = (g :: gs).flatMap gapAgents ∧ t.idx.toNat = 34 ∧
      readSlot t.buf 0 = (s.edgeCnt + g) % 2 ^ s.cfg.cntWidth ∧
      (∀ k, k < 33 → readSlot t.buf (1 + k) = gs.getD k 0 % 2 ^ s.cfg.cntWidth) ∧
      t = { s with
            buf := t.buf, idx := t.idx, edgeCnt := 0, wdtCnt := 0
            settleCnt := s.settleCnt - (g :: gs).sum, events := (s.ticked g).events } := by
  obtain ⟨is, hpath, hagents⟩ := hs.gap_path (g := g) hgie (by rw [hempty]; decide)
  obtain ⟨hidx, hslot⟩ := gapped_of_empty hempty
  obtain ⟨js, t, hpath', hagents', hgs⟩ := Inv.short_gaps_path (s := s.gapped g) (gs := gs)
    (hpath.keeps (fun _ _ _ => Inv.kept_by_exec) hs) hgie rfl rfl (by omega) hshort
  have htidx := hgs.idx
  have hslots := hgs.slots
  have hframe := hgs.frame
  rw [hidx, hlen] at htidx hslots
  refine ⟨is ++ js, t, hpath.append hpath', ?_, htidx, ?_, hslots, ?_⟩
  · rw [List.map_append, hagents, hagents', List.flatMap_cons]
  · rw [hgs.earlier 0 (by omega), hslot]
  · rw [List.sum_cons, ← Nat.sub_sub]
    exact hframe

/-- The slots of a frame, counted as the rules count them. -/
theorem slots_of_tail {b : FrameBuffer} {w : Nat}
    (h : ∀ k, k < 33 → readSlot b (1 + k) = gs.getD k 0 % 2 ^ w) (k : Nat) (h1 : 1 ≤ k) (hk : k < 34) : readSlot b k = (g :: gs).getD k 0 % 2 ^ w := by
  obtain ⟨j, rfl⟩ := Nat.exists_eq_add_of_le h1
  rw [h j (by omega), Nat.add_comm, List.getD_cons_succ]

/-- Settles O8: from IDX 0 the first gap leaves no sample, however long it is. -/
theorem shortGapsCaptureFrame : Obligations.ShortGapsCaptureFrame := by
  rintro s (_ | ⟨g, gs⟩) hs hgie h0 hlen hshort
  · cases hlen
  obtain ⟨is, t, hpath, hagents, hidx, hslot, hslots, hframe⟩ :=
    hs.frame_path hgie (ticked_idx_of_empty h0) (Nat.succ.inj hlen) hshort
  rw [ticked_events_of_empty h0] at hframe
  exact ⟨is, t, hpath, hagents, hidx, hslot, slots_of_tail hslots, hframe⟩

/-- Settles O10: the idle time reaches the watchdog's period, so the first gap leaves no sample. -/
theorem idleTimeClearsPartialFrame : Obligations.IdleTimeClearsPartialFrame := by
  rintro s (_ | ⟨g, gs⟩) gMax gIdle hs hgie hlen ⟨hmax, hidle⟩ hfirst hrest
  · cases hlen
  have hlong : s.cfg.wdtPeriod ≤ s.wdtCnt + g :=
    (hidle.trans hfirst).trans (Nat.le_add_left g s.wdtCnt)
  obtain ⟨is, t, hpath, hagents, hidx, -, hslots, hframe⟩ :=
    hs.frame_path hgie (ticked_idx_of_long hgie hlong) (Nat.succ.inj hlen)
      fun g' hg' => (hrest g' hg').trans_lt hmax
  refine ⟨is, t, hpath, hagents, hidx, slots_of_tail hslots, ?_⟩
  rw [hframe]
  exact ticked_events_of_long hgie hlong

end Sys2Proof.Machine
end

section
/-! A transmission through the schedule (`30_encoding.md` R61, `70_reset_and_hazards.md` R116): a run of the
agents is what the machine does with their lines, and the slots of `frame c` decode to `c`. -/

namespace Sys2Proof.Machine

variable {s t : State} {is : List Instr}

/-- R74, R116: each bit is decoded as it was sent exactly where its gap is on its side of the threshold. -/
theorem sampleBit_gap_iff (cfg : Config) (bit : Bool) (z o : Nat) :
    sampleBit cfg (if bit then o else z) = bit ↔
      (bit = false → z ≤ cfg.tOne) ∧ (bit = true → cfg.tOne < o) := by
  cases bit <;> simp [sampleBit]

/-- Settles O13: bit by bit, and the two kinds of bits apart. -/
theorem thresholdSeparatesTheBits : Obligations.ThresholdSeparatesTheBits := by
  intro cfg b c z o hslots
  have hbits : decodeFrame cfg b = c ↔ ∀ j, j < 32 →
      (c.getLsbD j = false → z ≤ cfg.tOne) ∧ (c.getLsbD j = true → cfg.tOne < o) := by
    rw [BitVec.eq_of_getLsbD_eq_iff]
    refine forall₂_congr fun j hj => ?_
    rw [decodeFrame_getLsbD cfg b hj, hslots j hj, sampleBit_gap_iff]
  rw [hbits]
  constructor
  · intro h
    exact ⟨fun ⟨j, hj, hbit⟩ => (h j hj).1 hbit, fun ⟨j, hj, hbit⟩ => (h j hj).2 hbit⟩
  · rintro ⟨hzeros, hones⟩ j hj
    exact ⟨fun hbit => hzeros ⟨j, hj, hbit⟩, fun hbit => hones ⟨j, hj, hbit⟩⟩

/-- A run does not depend on the schedule the state holds. -/
theorem Path.setSched (h : Path is s t) (l : List Entry) : Path is (s.setSched l) (t.setSched l) := by
  induction is generalizing s with
  | nil => cases h; rfl
  | cons i is ih =>
    obtain ⟨ha, m, he, hp⟩ := h
    exact ⟨ha, m.setSched l, exec_setSched_next he l, ih hp⟩

/-- R61: the machine follows the lines of the agents that take a run's steps. -/
theorem Path.run_scheduled {r : List Entry} (h : Path is s t) (hw : s.cfg.wf = true)
    (hsched : s.sched = (is.map Instr.agent).map .agent ++ r) :
    Host.Core.run Sys2Proof.core is.length s = .next (t.setSched r) := by
  induction is generalizing s t with
  | nil =>
    cases h
    rw [← show s.sched = r from hsched]
    rfl
  | cons i is ih =>
    obtain ⟨ha, m, he, hp⟩ := h
    have hstep := (step_agent hw hsched ha).trans (exec_setSched_next he _)
    rw [List.length_cons, Core_run_next Sys2Proof.core hstep]
    have hrest := ih (hp.setSched ((is.map Instr.agent).map .agent ++ r))
      ((congrArg Config.wf (exec_cfg he)).trans hw) rfl
    exact hrest

/-- R61: a gap's line is its agents' lines. -/
theorem traceGap_eq (g : Nat) : traceGap g = (gapAgents g).map .agent := by
  simp [traceGap, traceTick, traceEdge, gapAgents]

theorem traceFrame_eq (c : Command) (g0 g1 z o : Nat) :
    traceFrame c g0 g1 z o = ((frameGaps c g0 g1 z o).flatMap gapAgents).map .agent := by
  rw [traceFrame, List.map_flatMap]
  exact List.flatMap_congr fun g _ => traceGap_eq g

theorem bitGap_cases (c : Command) (z o k : Nat) : bitGap c z o k = z ∨ bitGap c z o k = o :=
  (ite_eq_or_eq _ _ _).symm

/-- R61: bit j is sent as gap 33 - j. -/
theorem frameGaps_getD (c : Command) (g0 g1 z o : Nat) {j : Nat} (hj : j < 32) :
    (frameGaps c g0 g1 z o).getD (33 - j) 0 = bitGap c z o j := by
  have hslot : 33 - j = 31 - j + 1 + 1 := by omega
  have hbit : 31 - (31 - j) = j := by omega
  have hrange : 31 - j < nData := by rw [nData]; omega
  rw [frameGaps, hslot, List.getD_cons_succ, List.getD_cons_succ]
  simp [List.getD, hrange, hbit]

/-- The gaps of `frame c` after the first are short if `g1`, `z` and `o` are. -/
theorem frameGaps_tail_lt {c : Command} {g0 g1 z o p : Nat} (h1 : g1 < p) (hz : z < p) (ho : o < p) :
    ∀ g ∈ (frameGaps c g0 g1 z o).tail, g < p := by
  simp only [frameGaps, List.tail_cons, List.mem_cons, List.mem_map]
  rintro g (rfl | ⟨k, -, rfl⟩)
  · exact h1
  · obtain hk | hk := bitGap_cases c z o (31 - k)
    · rw [hk]; exact hz
    · rw [hk]; exact ho

/-- Settles O12: the frame's lines are a run that captures it (O8), and the captured slots decode to the
command (O13), because neither bit's gap wraps. -/
theorem transmissionDecodesToItsCommand : Obligations.TransmissionDecodesToItsCommand := by
  intro s c g0 g1 z o r hs hgie h0 h1 hz ho hzero hone hwidth hsched
  obtain ⟨is, t, hpath, hagents, hidx, -, hslots, hframe⟩ :=
    shortGapsCaptureFrame s (frameGaps c g0 g1 z o) hs hgie h0 (by simp [frameGaps, nData])
      (frameGaps_tail_lt h1 hz ho)
  rw [traceFrame_eq, ← hagents] at hsched ⊢
  have hrun := hpath.run_scheduled hs.config hsched
  rw [List.length_map, List.length_map]
  refine ⟨t.setSched r, hrun, hidx, ?decoded, ?frame⟩
  case frame =>
    rw [hframe]
    rfl
  case decoded =>
    refine (thresholdSeparatesTheBits t.cfg t.buf c z o fun j hj => ?_).2 ?_
    · rw [hslots (33 - j) (by omega) (by omega), frameGaps_getD c g0 g1 z o hj]
      refine Nat.mod_eq_of_lt ?_
      obtain hk | hk := bitGap_cases c z o j
      · rw [hk]; omega
      · rw [hk]; exact hwidth
    · rw [hframe]
      exact ⟨fun _ => hzero, fun _ => hone⟩

end Sys2Proof.Machine
end

section
/-! Reading the schedule (`30_encoding.md` R61, `60_exceptions.md` R102): what a step does for each form of
its head. -/

namespace Sys2Proof.Machine

variable {s t : State} {i : Instr} {a : Agent} {j : Instant} {w : SelectorWord} {r : List Entry}

theorem fetch_of_wf (hw : s.cfg.wf = true) : fetch s = fetchFrom s s.sched :=
  if_pos hw

theorem step_of_fetchFrom {s' : State} (hw : s.cfg.wf = true) (h : fetchFrom s s.sched = .next (i, s')) :
    step s = exec i s' := by
  rw [step, fetch_of_wf hw, h]

theorem step_of_fetchFrom_refused {e : Refusal} (hw : s.cfg.wf = true)
    (h : fetchFrom s s.sched = .refused e) : step s = .refused e := by
  rw [step, fetch_of_wf hw, h]

theorem fetchAgent_of_some (h : agentInstr a s = some i) : fetchAgent a s = .next (i, s) := by
  rw [fetchAgent, h]

/-- An entry that is passed over leaves the step to the rest of the schedule. -/
theorem step_of_passed_over (hw : s.cfg.wf = true) (h : fetchFrom s s.sched = fetchFrom s r) :
    step s = step (s.setSched r) := by
  have hrest : fetch (s.setSched r) = fetchFrom s r :=
    (fetch_of_wf (s := s.setSched r) hw).trans (fetchFrom_setSched s r r)
  rw [step, step, fetch_of_wf hw, h, hrest]

/-- R59: a selector byte. -/
theorem step_word (hw : s.cfg.wf = true) (hs : s.sched = .word w :: r) (hd : decodeWord w = .ok i) :
    step s = exec (resolve s i) (s.setSched r) := by
  refine step_of_fetchFrom hw ?_
  rw [hs, fetchFrom, fetchWord, hd]
  rfl

/-- R60: a selector byte that names no step. -/
theorem step_word_refused {e : SelectorError} (hw : s.cfg.wf = true) (hs : s.sched = .word w :: r)
    (hd : decodeWord w = .error e) : step s = .refused (refusalOf e) := by
  refine step_of_fetchFrom_refused hw ?_
  rw [hs, fetchFrom, fetchWord, hd]

/-- R102: one step of the member that is first. -/
theorem step_instant (hw : s.cfg.wf = true) (hs : s.sched = .instant j :: r)
    (hfirst : firstOf s.cfg.simulOrder s.draws (instantMembers j) = some a) (ha : agentInstr a s = some i) :
    step s = exec i (s.setSched (instantThen (instantWithout j a) r)).nextDraw := by
  refine step_of_fetchFrom hw ?_
  rw [hs, fetchFrom, hfirst]
  exact fetchAgent_of_some ha

theorem step_instant_empty (hw : s.cfg.wf = true) (hs : s.sched = .instant j :: r)
    (hj : instantMembers j = []) : step s = step (s.setSched r) := by
  refine step_of_passed_over hw ?_
  rw [hs, fetchFrom, hj]
  cases s.cfg.simulOrder <;> rfl

/-- R61: `run` where the sequencer does not hold: its step, with `run` still to come. -/
theorem step_run (hw : s.cfg.wf = true) (hs : s.sched = .run :: r) (hfree : s.seqHolds = false)
    (ha : agentInstr .seq s = some i) : step s = exec i s := by
  refine step_of_fetchFrom hw ?_
  rw [hs, fetchFrom, hfree, ← hs]
  exact fetchAgent_of_some ha

theorem step_run_of_hold (hw : s.cfg.wf = true) (hs : s.sched = .run :: r) (hhold : s.seqHolds = true) :
    step s = step (s.setSched r) := by
  refine step_of_passed_over hw ?_
  rw [hs, fetchFrom, if_pos hhold]

theorem step_nil (hw : s.cfg.wf = true) (hs : s.sched = [])
    (ha : agentInstr (Config.freeAgent s.draws) s = some i) : step s = exec i s.nextDraw := by
  refine step_of_fetchFrom hw ?_
  rw [hs, fetchFrom, ← hs]
  exact fetchAgent_of_some ha

/-- Settles O54: one lemma for each form of the schedule's head. -/
theorem stepRunsScheduledOperation : Obligations.StepRunsScheduledOperation := fun s _ hw =>
  ⟨fun _ _ => step_word hw, fun _ _ => step_agent hw, fun _ => step_run hw, step_run_of_hold hw,
    fun _ => step_instant_empty hw, fun hs => ⟨Config.freeAgent s.draws, fun _ => step_nil hw hs⟩⟩

/-! The members of an instant. -/

/-- R102: an instant with a member has a first one, under FIXED the head of the fixed order. -/
theorem firstOf_of_ne_nil {l : List Agent} (o : SimulOrder) (d : Nat) (h : l ≠ []) :
    ∃ a ∈ l, firstOf o d l = some a ∧ (o = .fixed → l.head? = some a) := by
  cases o with
  | fixed =>
    exact ⟨l.head h, List.head_mem h, List.head?_eq_some_head h, fun _ => List.head?_eq_some_head h⟩
  | any =>
    have hlt : Config.freePick d % l.length < l.length := Nat.mod_lt _ (List.length_pos_iff.2 h)
    exact ⟨_, List.getElem_mem hlt, List.getElem?_eq_getElem hlt, nofun⟩

theorem head?_replicate_append {α : Type} (n : Nat) (x : α) (l : List α) :
    (List.replicate n x ++ l).head? = if 0 < n then some x else l.head? := by
  cases n <;> simp [List.replicate_succ]

/-- R102: "signal edges, tick, sequencer, emergency stops". -/
theorem head_instantMembers (h : (instantMembers j).head? = some a) :
    a = if 0 < j.ir then .ir else if j.clk then .clk else if 0 < j.seq then .seq else .estop := by
  rw [instantMembers, List.append_assoc, List.append_assoc, head?_replicate_append] at h
  split_ifs at h ⊢ with hir hclk hseq
  · exact (Option.some.inj h).symm
  · exact (Option.some.inj h).symm
  · rw [List.nil_append, head?_replicate_append, if_pos hseq] at h
    exact (Option.some.inj h).symm
  · rw [List.nil_append, head?_replicate_append, if_neg hseq] at h
    exact List.eq_of_mem_replicate (List.mem_of_head? h)

/-- A member's step leaves the others. -/
theorem instantMembers_without (h : a ∈ instantMembers j) :
    instantMembers (instantWithout j a) = (instantMembers j).erase a := by
  obtain ⟨ir, clk, seq, estop⟩ := j
  cases a with
  | ir =>
    have hir : ir ≠ 0 := by simpa [instantMembers] using h
    cases clk <;> simp [instantMembers, instantWithout, List.erase_append, hir]
  | clk =>
    have hclk : clk = true := by simpa [instantMembers] using h
    simp [instantMembers, instantWithout, List.erase_append, hclk]
  | seq =>
    have hseq : seq ≠ 0 := by simpa [instantMembers] using h
    cases clk <;> simp [instantMembers, instantWithout, List.erase_append, hseq]
  | estop => cases clk <;> simp [instantMembers, instantWithout, List.erase_append]

/-- R58: with a legal `SEQ` every agent has an operation. -/
theorem agentInstr_of_legal (h : Seq.legal s.seq = true) (a : Agent) : ∃ i, agentInstr a s = some i := by
  cases a with
  | clk => exact ⟨_, rfl⟩
  | ir => exact ⟨_, rfl⟩
  | estop => exact ⟨_, rfl⟩
  | seq =>
    obtain hq | hq | hq | hq | hq := (Seq.legal_iff s.seq).1 h
    · exact ⟨_, agentInstr_seq_of_idle hq⟩
    · exact ⟨_, agentInstr_seq_of_dispatch hq⟩
    · exact ⟨_, agentInstr_seq_of_act hq⟩
    · exact ⟨_, agentInstr_seq_of_settle hq⟩
    · exact ⟨_, agentInstr_seq_of_boot hq⟩

/-- Settles O43: the first member's operation, and the members left. -/
theorem instantStepsInOrder : Obligations.InstantStepsInOrder := by
  intro s j r hw hlegal hs hmember
  obtain ⟨a, hmem, hfirst, hhead⟩ := firstOf_of_ne_nil s.cfg.simulOrder s.draws hmember
  obtain ⟨i, ha⟩ := agentInstr_of_legal hlegal a
  exact ⟨a, i, s.draws + 1, hmem, ha, step_instant hw hs hfirst ha,
    fun hfixed => head_instantMembers (hhead hfixed), instantMembers_without hmem⟩

/-- R102: of an edge and a tick under FIXED the edge is first. -/
theorem step_edge_before_tick (hw : s.cfg.wf = true) (hfixed : s.cfg.simulOrder = .fixed)
    (hs : s.sched = .instant ⟨1, true, 0, 0⟩ :: r) (hgie : s.gie = true) (hroom : s.idx.toNat < 34) :
    step s = .next (storeSample (s.setSched (.instant ⟨0, true, 0, 0⟩ :: r)).nextDraw) :=
  (step_instant hw hs (a := .ir) (by rw [hfixed]; rfl) rfl).trans
    (execIrEdge_stores (s := (s.setSched (.instant ⟨0, true, 0, 0⟩ :: r)).nextDraw) hgie hroom)

theorem step_tick_left (hw : s.cfg.wf = true) (hfixed : s.cfg.simulOrder = .fixed)
    (hs : s.sched = .instant ⟨0, true, 0, 0⟩ :: r) (hne : s.wdtCnt ≠ s.cfg.wdtPeriod - 1) :
    step s = .next ((s.setSched r).nextDraw.countTick.setWdt (s.wdtCnt + 1)) :=
  (step_instant hw hs (a := .clk) (by rw [hfixed]; rfl) (agentInstr_clk_of_not_expires hne)).trans
    (exec_tick_of_not_expires (s := (s.setSched r).nextDraw) hne)

/-- Settles O44: the edge clears the timers, so the tick that follows it is the first of its gap. -/
theorem edgeIsTakenBeforeTick : Obligations.EdgeIsTakenBeforeTick := by
  intro s r hw hfixed hperiod hgie hroom hs
  have hlast : 0 ≠ s.cfg.wdtPeriod - 1 := Nat.ne_of_lt (Nat.sub_pos_of_lt hperiod)
  have hcount : 1 % 2 ^ s.cfg.cntWidth = 1 :=
    Nat.mod_eq_of_lt (Nat.one_lt_two_pow (Nat.one_le_iff_ne_zero.1 (Config.wf_width hw)))
  exact ⟨_, _, step_edge_before_tick hw hfixed hs hgie hroom, step_tick_left hw hfixed rfl hlast, rfl,
    readSlot_writeSlot_same _ _ _ hroom, storeSample_idx_toNat hroom, hcount, rfl, rfl⟩

/-! `run` and `seq` (R61). -/

/-- A run of one more step has a first step. -/
theorem Core_run_succ_next (M : Host.Core) {k : Nat} {s t : M.State} (h : M.run (k + 1) s = .next t) :
    ∃ m, M.step s = .next m ∧ M.run k m = .next t := by
  rw [Host.Core.run] at h
  split at h
  · exact ⟨_, ‹_›, h⟩
  · cases h
  · cases h

/-- A line `seq` that is carried out is the sequencer's operation. -/
theorem step_seq_next (hw : s.cfg.wf = true) (hs : s.sched = .agent .seq :: r) (h : step s = .next t) :
    ∃ i, agentInstr .seq s = some i ∧ exec i (s.setSched r) = .next t := by
  cases ha : agentInstr .seq (s.setSched r) with
  | some i => exact ⟨i, ha, (step_agent hw hs ha).symm.trans h⟩
  | none =>
    rw [step, fetch_of_wf hw, hs, fetchFrom, fetchAgent, ha] at h
    cases h

/-- R61: `run` takes the steps of the lines `seq` that it stands for, and stays in the schedule. -/
theorem run_eq_seq_lines {n : Nat} (hw : s.cfg.wf = true)
    (hfree : ∀ k, k < n → ∃ u, Host.Core.run Sys2Proof.core k (s.setSched (traceSeq n ++ r)) = .next u ∧
      State.seqHolds u = false)
    (hrun : Host.Core.run Sys2Proof.core n (s.setSched (traceSeq n ++ r)) = .next t) :
    t.cfg = s.cfg ∧ t.sched = r ∧
      Host.Core.run Sys2Proof.core n (s.setSched (.run :: r)) = .next (t.setSched (.run :: r)) := by
  induction n generalizing s with
  | zero =>
    cases hrun
    exact ⟨rfl, rfl, rfl⟩
  | succ n ih =>
    obtain ⟨u, hu, hfirst⟩ := hfree 0 (Nat.succ_pos n)
    cases hu
    obtain ⟨m, hstep, hrest⟩ := Core_run_succ_next _ hrun
    obtain ⟨i, ha, hexec⟩ := step_seq_next (s := s.setSched (traceSeq (n + 1) ++ r)) hw rfl hstep
    have hm : m.setSched (traceSeq n ++ r) = m := by
      rw [← show m.sched = traceSeq n ++ r from exec_sched hexec]
      rfl
    have hline : step (s.setSched (.run :: r)) = .next (m.setSched (.run :: r)) :=
      (step_run (s := s.setSched (.run :: r)) hw rfl hfirst ha).trans (exec_setSched_next hexec _)
    have hfree' : ∀ k, k < n → ∃ u,
        Host.Core.run Sys2Proof.core k (m.setSched (traceSeq n ++ r)) = .next u ∧
          State.seqHolds u = false := by
      intro k hk
      obtain ⟨u, hu, hnohold⟩ := hfree (k + 1) (Nat.succ_lt_succ hk)
      rw [Core_run_next _ hstep] at hu
      exact ⟨u, hm ▸ hu, hnohold⟩
    have hmcfg := exec_cfg hexec
    obtain ⟨hcfg, hsched, hlines⟩ := ih ((congrArg Config.wf hmcfg).trans hw) hfree' (hm.symm ▸ hrest)
    refine ⟨hcfg.trans hmcfg, hsched, ?_⟩
    rw [Core_run_next Sys2Proof.core hline]
    exact hlines

/-- Settles O55: the `run` left over is passed over at the hold. -/
theorem runIsSeqUntilHold : Obligations.RunIsSeqUntilHold := by
  intro s (t : State) n r hw hfree hrun hhold
  obtain ⟨hcfg, hsched, hline⟩ := run_eq_seq_lines hw hfree hrun
  have hrest : (t.setSched (.run :: r)).setSched r = t := by rw [← hsched]; rfl
  refine ⟨hsched, hline, ?_⟩
  have hwt : (State.cfg t).wf = true := by rw [hcfg]; exact hw
  have hpass := step_run_of_hold (s := State.setSched t (.run :: r)) hwt rfl hhold
  rw [hrest] at hpass
  exact hpass

end Sys2Proof.Machine
end

section
/-! The step selector (`30_encoding.md` R59, R60): fields and byte are two readings of the same bits; the
decoder names the operation whose selector the byte is, or says why there is none. -/

namespace Sys2Proof

variable {x : Selector} {w : SelectorWord} {i : Instr}

theorem Selector.ofWord_toWord (x : Selector) : Selector.ofWord x.toWord = x := by
  obtain ⟨step, sq, ac⟩ := x
  simp only [Selector.ofWord, Selector.toWord, Selector.mk.injEq]
  refine ⟨?step, ?sq, ?ac⟩
  all_goals
    ext
    simp
    grind

theorem Selector.toWord_ofWord (w : SelectorWord) : (Selector.ofWord w).toWord = w := by
  simp only [Selector.ofWord, Selector.toWord]
  ext
  simp
  grind

theorem Action.code_ofCode (c : Code3) : (Action.ofCode c).code = c := by
  revert c
  decide

/-! The clauses of R59 and R60, as propositions. -/

theorem Selector.canonical_iff : x.canonical = true ↔ x.step = 0b11#2 ∨ (x.sq = 0#3 ∧ x.ac = 0#3) := by
  simp [Selector.canonical]

theorem Selector.sequencerUsed_iff : x.sequencerUsed = true ↔ x.step ≠ 0b11#2 ∨ Seq.legal x.sq = true := by
  simp [Selector.sequencerUsed]

theorem Selector.actionPlaced_iff :
    x.actionPlaced = true ↔ x.step ≠ 0b11#2 ∨ x.sq = Seq.act ∨ x.ac = 0#3 := by
  simp [Selector.actionPlaced, or_assoc]

/-! The three errors of the decoder. -/

theorem decodeSelector_nonCanonical (h : x.canonical = false) :
    decodeSelector x = .error .nonCanonical := by
  rw [decodeSelector, h]
  rfl

theorem decodeSelector_unused (hc : x.canonical = true) (h : x.sequencerUsed = false) :
    decodeSelector x = .error .unusedSequencer := by
  rw [decodeSelector, hc, h]
  rfl

theorem decodeSelector_stray (hc : x.canonical = true) (hu : x.sequencerUsed = true)
    (h : x.actionPlaced = false) : decodeSelector x = .error .strayAction := by
  rw [decodeSelector, hc, hu, h]
  rfl

theorem wf_of_decodeSelector (h : decodeSelector x = .ok i) : x.wf = true := by
  have hc : x.canonical = true := by
    by_contra hno
    cases (decodeSelector_nonCanonical (Bool.eq_false_of_not_eq_true hno)).symm.trans h
  have hu : x.sequencerUsed = true := by
    by_contra hno
    cases (decodeSelector_unused hc (Bool.eq_false_of_not_eq_true hno)).symm.trans h
  have hp : x.actionPlaced = true := by
    by_contra hno
    cases (decodeSelector_stray hc hu (Bool.eq_false_of_not_eq_true hno)).symm.trans h
  rw [Selector.wf, hc, hu, hp]
  rfl

/-- R11: the four codes of `STEP`. -/
theorem stepCode_cases (b : BitVec 2) : b = 0b00#2 ∨ b = 0b01#2 ∨ b = 0b10#2 ∨ b = 0b11#2 := by
  revert b
  decide

/-- R59, R60: the selectors that name a step, in the order of the opcode table. -/
theorem Selector.cases_of_wf (h : x.wf = true) :
    x = ⟨0b00#2, 0#3, 0#3⟩ ∨ x = ⟨0b01#2, 0#3, 0#3⟩ ∨ x = ⟨0b10#2, 0#3, 0#3⟩ ∨
    x = ⟨0b11#2, Seq.boot, 0#3⟩ ∨ x = ⟨0b11#2, Seq.idle, 0#3⟩ ∨ x = ⟨0b11#2, Seq.dispatch, 0#3⟩ ∨
    (∃ a : Action, x = ⟨0b11#2, Seq.act, a.code⟩) ∨ x = ⟨0b11#2, Seq.settle, 0#3⟩ := by
  obtain ⟨step, sq, ac⟩ := x
  simp only [Selector.wf, Bool.and_eq_true, Selector.canonical_iff, Selector.sequencerUsed_iff,
    Selector.actionPlaced_iff] at h
  obtain ⟨⟨hcanonical, hused⟩, hplaced⟩ := h
  obtain rfl | rfl | rfl | rfl := stepCode_cases step
  · obtain ⟨rfl, rfl⟩ := hcanonical.resolve_left (by decide)
    exact .inl rfl
  · obtain ⟨rfl, rfl⟩ := hcanonical.resolve_left (by decide)
    exact .inr (.inl rfl)
  · obtain ⟨rfl, rfl⟩ := hcanonical.resolve_left (by decide)
    exact .inr (.inr (.inl rfl))
  · have hact : (⟨0b11#2, Seq.act, ac⟩ : Selector) = ⟨0b11#2, Seq.act, (Action.ofCode ac).code⟩ := by
      rw [Action.code_ofCode]
    have hlegal := (Seq.legal_iff sq).1 (hused.resolve_left (not_not.2 rfl))
    obtain rfl | rfl := hplaced.resolve_left (not_not.2 rfl)
    · exact .inr (.inr (.inr (.inr (.inr (.inr (.inl ⟨_, hact⟩))))))
    · obtain rfl | rfl | rfl | rfl | rfl := hlegal
      · simp
      · simp
      · exact .inr (.inr (.inr (.inr (.inr (.inr (.inl ⟨.stop, rfl⟩))))))
      · simp
      · simp

/-- R80: a selector of S_ACT names the operation of its action. -/
theorem decodeSelector_act (a : Action) : decodeSelector ⟨0b11#2, Seq.act, a.code⟩ = .ok a.instr := by
  cases a <;> rfl

/-- R59: every selector that names a step decodes. -/
theorem decodeSelector_of_wf (h : x.wf = true) : ∃ i, decodeSelector x = .ok i := by
  obtain rfl | rfl | rfl | rfl | rfl | rfl | ⟨a, rfl⟩ | rfl := Selector.cases_of_wf h
  case inr.inr.inr.inr.inr.inr.inl => exact ⟨_, decodeSelector_act a⟩
  all_goals exact ⟨_, rfl⟩

/-- R59: the operation decoded from a selector has that selector. -/
theorem encode_of_decodeSelector (h : decodeSelector x = .ok i) : encode i = x.toWord := by
  obtain rfl | rfl | rfl | rfl | rfl | rfl | ⟨a, rfl⟩ | rfl :=
    Selector.cases_of_wf (wf_of_decodeSelector h)
  case inr.inr.inr.inr.inr.inr.inl =>
    obtain rfl := Except.ok.inj ((decodeSelector_act a).symm.trans h)
    cases a <;> rfl
  all_goals
    obtain rfl := Except.ok.inj h
    rfl

/-- R59: no bit of a byte that decodes is dropped. -/
theorem encode_of_decodeWord (h : decodeWord w = .ok i) : encode i = w :=
  (encode_of_decodeSelector h).trans (Selector.toWord_ofWord w)

end Sys2Proof
end

section
/-! Selectors and states (`30_encoding.md` R58 to R60): the selector that labels a step is its
operation's, and the sequencer's operations answer in no other state. -/

namespace Sys2Proof.Machine

variable {s : State} {i : Instr} {a : Agent} {w : SelectorWord}

/-- Settles O45: the ten bytes are read by evaluation. -/
theorem tableWordsDecode : Obligations.TableWordsDecode :=
  ⟨rfl, rfl, rfl, rfl, rfl, rfl, rfl, rfl, rfl, rfl⟩

/-- R59: the byte of every row of the opcode table. -/
theorem selectorFields (i : Instr) : Laws.SelectorFields.Statement i := by
  cases i <;> exact ⟨rfl, rfl, rfl⟩

theorem decodeWord_encode (i : Instr) : decodeWord (encode i) = .ok i.byWord :=
  (selectorFields i).1

theorem byWord_of_ne_wdtOvf (h : i ≠ .wdtOvf) : i.byWord = i := by
  cases i with
  | wdtOvf => exact absurd rfl h
  | _ => rfl

theorem resolve_tick (s : State) :
    resolve s .tick = if s.wdtCnt = s.cfg.wdtPeriod - 1 then .wdtOvf else .tick := by
  simp [resolve, wdtExpires_iff]

theorem resolve_of_ne_tick (h : i ≠ .tick) : resolve s i = i :=
  if_neg fun htick => h htick.1

/-- Settles O46: the two directions, and TICK told from WDT_OVF. -/
theorem encodeAndDecodeAgree : Obligations.EncodeAndDecodeAgree :=
  ⟨fun i hi => (decodeWord_encode i).trans (congrArg _ (byWord_of_ne_wdtOvf hi)),
    fun _ _ => encode_of_decodeWord, resolve_tick⟩

/-- R59: a byte whose `STEP` is the sequencer's names an operation of the sequencer. -/
theorem agent_of_decodeWord (h : decodeWord w = .ok i) (hstep : (Selector.ofWord w).step = 0b11#2) :
    i.agent = .seq := by
  have hcode := (selectorFields i).2.1
  rw [encode_of_decodeWord h, hstep] at hcode
  cases ha : i.agent with
  | seq => rfl
  | clk | ir | estop => rw [ha] at hcode; exact absurd hcode (by decide)

/-- Settles O47: the first two errors of the decoder, each with its refusal. -/
theorem selectorsOfNoStepAreRefused : Obligations.SelectorsOfNoStepAreRefused := by
  intro s w r hw hs x
  refine ⟨fun hstep hfields => ?nonCanonical, fun hstep hunused => ?unused⟩
  case nonCanonical =>
    have hc : x.canonical = false := Bool.eq_false_iff.2 fun hc =>
      (Selector.canonical_iff.1 hc).elim hstep fun hzero =>
        hfields.elim (fun hsq => hsq hzero.1) (fun hac => hac hzero.2)
    exact step_word_refused hw hs (decodeSelector_nonCanonical hc)
  case unused =>
    have hc : x.canonical = true := Selector.canonical_iff.2 (.inl hstep)
    have hillegal : Seq.legal x.sq = false := by
      obtain hsq | hsq | hsq := hunused
      all_goals rw [hsq]; rfl
    have hu : x.sequencerUsed = false := Bool.eq_false_iff.2 fun hu =>
      (Selector.sequencerUsed_iff.1 hu).elim (fun hne => hne hstep) (by simp [hillegal])
    exact step_word_refused hw hs (decodeSelector_unused hc hu)

/-- R59: the selectors of CLK, IR and ESTOP have no fields but `STEP`. -/
theorem selectorOf_of_ne_seq (h : a ≠ .seq) : selectorOf a s = ⟨a.stepCode, 0#3, 0#3⟩ := by
  simp [selectorOf, h]

/-- R59: `AC` is zero outside S_ACT. -/
theorem selectorOf_seq_of_ne_act (h : s.seq ≠ Seq.act) : selectorOf .seq s = ⟨0b11#2, s.seq, 0#3⟩ := by
  simp [selectorOf, h, Agent.stepCode]

/-- R58, R60: an unused code of `SEQ` leaves the sequencer without an operation. -/
theorem agentInstr_seq_unused (hl : Seq.legal s.seq = false) : agentInstr .seq s = none := by
  have hno := mt (Seq.legal_iff s.seq).2 (Bool.eq_false_iff.1 hl)
  simp only [not_or] at hno
  simp [agentInstr, hno]

theorem legal_of_agentInstr_seq (h : agentInstr .seq s = some i) : Seq.legal s.seq = true := by
  by_contra hl
  cases (agentInstr_seq_unused (Bool.eq_false_of_not_eq_true hl)).symm.trans h

/-- R59: outside S_ACT the sequencer's selector is its state's code. -/
theorem encode_of_seq_ne_act {q : Code3} {j : Instr} (hq : s.seq = q) (hne : q ≠ Seq.act)
    (hcode : encode j = (Selector.mk 0b11#2 q 0#3).toWord) (hj : agentInstr .seq s = some j)
    (h : agentInstr .seq s = some i) : encode i = (selectorOf .seq s).toWord := by
  subst hq
  obtain rfl := Option.some.inj (hj.symm.trans h)
  rw [selectorOf_seq_of_ne_act hne, hcode]

/-- R59: the byte that labels a step of the sequencer is its operation's. -/
theorem encode_of_agentInstr_seq (h : agentInstr .seq s = some i) :
    encode i = (selectorOf .seq s).toWord := by
  obtain hq | hq | hq | hq | hq := (Seq.legal_iff s.seq).1 (legal_of_agentInstr_seq h)
  · exact encode_of_seq_ne_act hq (by decide) rfl (agentInstr_seq_of_idle hq) h
  · exact encode_of_seq_ne_act hq (by decide) rfl (agentInstr_seq_of_dispatch hq) h
  · obtain rfl := Option.some.inj ((agentInstr_seq_of_act hq).symm.trans h)
    rw [encode_action_instr, selectorOf_seq_toWord_of_act hq]
  · exact encode_of_seq_ne_act hq (by decide) rfl (agentInstr_seq_of_settle hq) h
  · exact encode_of_seq_ne_act hq (by decide) rfl (agentInstr_seq_of_boot hq) h

/-- R59: the byte that labels an agent's step is its operation's. -/
theorem encode_of_agentInstr (h : agentInstr a s = some i) : encode i = (selectorOf a s).toWord := by
  cases a with
  | clk =>
    rw [selectorOf_of_ne_seq (by decide)]
    obtain rfl | rfl := eq_tick_or_wdtOvf_of_agent (agentInstr_agent h)
    all_goals rfl
  | ir =>
    rw [selectorOf_of_ne_seq (by decide)]
    cases h
    rfl
  | estop =>
    rw [selectorOf_of_ne_seq (by decide)]
    cases h
    rfl
  | seq => exact encode_of_agentInstr_seq h

/-- R59, R66: the state tells the operation from the one the byte alone names. -/
theorem resolve_byWord_of_agentInstr (h : agentInstr a s = some i) : resolve s i.byWord = i := by
  by_cases hclk : i.agent = .clk
  · obtain rfl : a = .clk := (agentInstr_agent h).symm.trans hclk
    by_cases hlast : s.wdtCnt = s.cfg.wdtPeriod - 1
    · obtain rfl := Option.some.inj ((agentInstr_clk_of_expires hlast).symm.trans h)
      exact (resolve_tick s).trans (if_pos hlast)
    · obtain rfl := Option.some.inj ((agentInstr_clk_of_not_expires hlast).symm.trans h)
      exact (resolve_tick s).trans (if_neg hlast)
  · obtain ⟨htick, hovf⟩ := ne_tick_of_agent hclk
    rw [byWord_of_ne_wdtOvf hovf, resolve_of_ne_tick htick]

/-- Settles O48: decoding inverts encoding, and the state resolves the rest. -/
theorem selectorLabelsTheStep : Obligations.SelectorLabelsTheStep := by
  intro s a hlegal
  obtain ⟨i, ha⟩ := agentInstr_of_legal hlegal a
  refine ⟨i, i.byWord, ha, ?_, resolve_byWord_of_agentInstr ha, agentInstr_agent ha⟩
  rw [← encode_of_agentInstr ha, decodeWord_encode]

theorem atAct_refused {b : Action} (r : Result) (hl : Seq.legal s.seq = true)
    (h : ¬ (s.seq = Seq.act ∧ s.action = b)) : atAct b s r = .refused .selectorDisagrees := by
  by_cases hq : s.seq = Seq.act
  · exact (atSeq_of_eq _ hq).trans (if_neg fun hb => h ⟨hq, hb⟩)
  · exact atSeq_refused _ hq hl

/-- R59: an operation of the sequencer is refused where the sequencer performs another. -/
theorem exec_refused_of_disagrees (hi : i.agent = .seq) (hl : Seq.legal s.seq = true)
    (hne : agentInstr .seq s ≠ some i) : exec i s = .refused .selectorDisagrees := by
  cases i with
  | tick | wdtOvf | irEdge | estopEdge => cases hi
  | boot => exact atSeq_refused _ (fun hq => hne (agentInstr_seq_of_boot hq)) hl
  | decode => exact atSeq_refused _ (fun hq => hne (agentInstr_seq_of_idle hq)) hl
  | dispatch => exact atSeq_refused _ (fun hq => hne (agentInstr_seq_of_dispatch hq)) hl
  | settle => exact atSeq_refused _ (fun hq => hne (agentInstr_seq_of_settle hq)) hl
  | actStop | actFwd | actBwd | actLeft | actRight | actSpeedup | actSlowdown | actAccToggle =>
    refine atAct_refused _ hl fun ⟨hq, ha⟩ => hne ?_
    rw [agentInstr_seq_of_act hq, ha]
    rfl

/-- Settles O49: a byte that decodes is its operation's, so it disagrees with the state exactly if the
operation does; one with a stray action decodes to none. -/
theorem disagreeingSelectorIsRefused : Obligations.DisagreeingSelectorIsRefused := by
  intro s w r hw hs x hstep hlegal
  have hc : x.canonical = true := Selector.canonical_iff.2 (.inl hstep)
  have hu : x.sequencerUsed = true := Selector.sequencerUsed_iff.2 (.inr hlegal)
  have hstray : x.actionPlaced = false → step s = .refused .selectorDisagrees := fun hp =>
    step_word_refused hw hs (decodeSelector_stray hc hu hp)
  refine ⟨fun hl hne => ?disagrees, fun hsq hac => hstray ?stray⟩
  case stray =>
    refine Bool.eq_false_iff.2 fun hp => ?_
    obtain hs' | hs' | hs' := Selector.actionPlaced_iff.1 hp
    · exact hs' hstep
    · exact hsq hs'
    · exact hac hs'
  case disagrees =>
    have hexec : ∀ i, decodeWord w = .ok i → exec i s = .refused .selectorDisagrees := by
      intro i hd
      refine exec_refused_of_disagrees (agent_of_decodeWord hd hstep) hl fun ha => hne ?_
      rw [← Selector.ofWord_toWord (selectorOf .seq s), ← encode_of_agentInstr ha, encode_of_decodeWord hd]
    refine ⟨?_, hexec⟩
    by_cases hp : x.actionPlaced = true
    · obtain ⟨i, hd⟩ := decodeSelector_of_wf (x := x) (by rw [Selector.wf, hc, hu, hp]; rfl)
      have hagent := agent_of_decodeWord hd hstep
      obtain ⟨htick, -⟩ := ne_tick_of_agent (i := i) (by rw [hagent]; decide)
      rw [step_word hw hs hd, resolve_of_ne_tick htick, exec_setSched, hexec i hd]
      rfl
    · exact hstray (Bool.eq_false_of_not_eq_true hp)

/-- R58, R60: an unused code of `SEQ` faults every operation of the sequencer. -/
theorem exec_unused (hi : i.agent = .seq) (hl : Seq.legal s.seq = false) : exec i s = .fault .seqUnused := by
  cases i with
  | tick | wdtOvf | irEdge | estopEdge => cases hi
  | _ => exact atSeq_unused _ rfl hl

/-- R60: an overflow with the events on reads `IDX`. -/
theorem overflowTick_of_idx_gt (hidx : 34 < s.idx.toNat) (hgie : s.gie = true) :
    overflowTick s = .fault .idxOutOfRange :=
  (if_pos hgie).trans (if_pos hidx)

/-- R60: an accepted edge reads `IDX`. -/
theorem exec_irEdge_of_idx_gt (hidx : 34 < s.idx.toNat) (hgie : s.gie = true) :
    exec .irEdge s = .fault .idxOutOfRange :=
  (if_pos hgie).trans ((if_neg hidx.le.not_gt).trans (if_neg hidx.ne'))

/-- R60: DECODE reads `IDX`. -/
theorem exec_decode_of_idx_gt (hidx : 34 < s.idx.toNat) (hq : s.seq = Seq.idle) :
    exec .decode s = .fault .idxOutOfRange := by
  have hpartial : ¬ s.frameComplete = true := fun hc => hidx.ne' ((frameComplete_iff s).1 hc)
  exact (atSeq_of_eq _ hq).trans ((if_neg hpartial).trans (if_neg hidx.le.not_gt))

/-- Settles O50: the two codes no step writes, each where an operation reads it. -/
theorem unreachableCodesFault : Obligations.UnreachableCodesFault :=
  ⟨fun _ _ hi hl => ⟨exec_unused hi hl, agentInstr_seq_unused hl⟩, fun _ hidx =>
    ⟨exec_irEdge_of_idx_gt hidx,
      fun hgie hlast => (exec_wdtOvf_of_expires hlast).trans (overflowTick_of_idx_gt hidx hgie),
      exec_decode_of_idx_gt hidx⟩⟩

end Sys2Proof.Machine
end

section
/-! Infinite runs (`70_reset_and_hazards.md` R113, R114, R119, `00_scope.md` R13): what the named assumptions
give of a run, step by step. -/

namespace Sys2Proof.Machine

variable {s t : State} {i : Instr} {σ : Nat → Agent} {ρ : Nat → State} {n m bound : Nat}

/-- R113: an edge is lost by IR_EDGE at a complete frame alone. -/
theorem filter_isEdgeLost_emitted (h : i = .irEdge → s.idx.toNat ≠ 34) :
    (emitted i s).filter Event.isEdgeLost = [] := by
  refine List.filter_eq_nil_iff.2 fun e he hlost => ?_
  cases e with
  | edgeLost v =>
    obtain ⟨hi, -, hfull, -⟩ := mem_emitted_edgeLost.1 he
    exact h hi hfull
  | frameAbort _ | unknownCmd _ | estop | frameDecoded _ | dispatched _ => cases hlost

/-- Settles O40: no step of the run adds a lost edge to the trace. -/
theorem drainedRunsLoseNoEdge : Obligations.DrainedRunsLoseNoEdge := by
  intro σ ρ h hdrain n
  induction n with
  | zero => rfl
  | succ n ih =>
    obtain ⟨i, ha, he⟩ := h n
    have hedge : i = .irEdge → (ρ n).idx.toNat ≠ 34 := by
      rintro rfl hfull
      have hpartial := hdrain n (agentInstr_agent ha).symm
      exact absurd ((frameComplete_iff _).2 hfull) (Bool.eq_false_iff.1 hpartial)
    rw [exec_events he, List.filter_append, filter_isEdgeLost_emitted hedge, List.append_nil, ih]

/-! A complete frame that waits for the sequencer. -/

theorem ticksBetween_self (σ : Nat → Agent) (n : Nat) : ticksBetween σ n n = 0 := by
  simp [ticksBetween]

theorem ticksBetween_succ (σ : Nat → Agent) (h : n ≤ m) :
    ticksBetween σ n (m + 1) = ticksBetween σ n m + if σ m = .clk then 1 else 0 := by
  have hlen : m + 1 - n = m - n + 1 := by omega
  have hlast : n + (m - n) = m := by omega
  rw [ticksBetween, ticksBetween, hlen, List.range'_1_concat, hlast, List.filter_append, List.length_append]
  by_cases hm : σ m = .clk <;> simp [hm]

/-- R62 to R66: with the frame complete, the other agents' operations keep it, but for an overflow; an edge
may replace its last slot. -/
theorem exec_keeps_frame (hfull : s.idx.toNat = 34) (hi : i.agent ≠ .seq)
    (hclk : i.agent = .clk → s.wdtCnt ≠ s.cfg.wdtPeriod - 1) (h : exec i s = .next t) :
    t.idx.toNat = 34 ∧ t.wdtCnt ≤ s.wdtCnt + (if i.agent = .clk then 1 else 0) ∧
      (s.cfg.fullPolicy = .drop ∨ i ≠ .irEdge → t.buf = s.buf) := by
  refine ⟨?idx, ?wdt, ?buf⟩
  case idx =>
    cases exec_indexEffect h with
    | keeps hidx => rw [hidx, hfull]
    | advances _ _ hroom _ => exact absurd hfull hroom.ne
    | taken hop _ _ => exact absurd (hop ▸ rfl) hi
    | restarts hop _ =>
      obtain rfl | ⟨hagent, -, hlast⟩ := hop
      · exact absurd rfl hi
      · exact absurd hlast (hclk hagent)
  case wdt =>
    obtain ⟨hagent, -, hwdt⟩ | ⟨-, -, hwdt⟩ | ⟨-, hwdt⟩ := exec_timers h
    · rw [hwdt, if_pos hagent]
      split <;> omega
    · rw [hwdt]
      exact Nat.zero_le _
    · rw [hwdt]
      exact Nat.le_add_right _ _
  case buf =>
    intro hkeep
    by_cases hedge : i = .irEdge
    · subst hedge
      obtain ⟨-, rfl⟩ | ⟨-, hroom, -⟩ | ⟨-, -, rfl⟩ := execIrEdge_next h
      · rfl
      · exact absurd hfull hroom.ne
      · have hdrop := hkeep.resolve_right (not_not.2 rfl)
        have hpolicy : ¬ FullPolicy.drop = .overwriteLast := by decide
        rw [loseSample_eq, hdrop, if_neg hpolicy]
    · exact exec_buf_of_ne_irEdge h hedge

/-- The frame that was complete at step `n` still waits at step `k`. -/
structure FrameWaits (σ : Nat → Agent) (ρ : Nat → State) (n k : Nat) : Prop where
  seq : (ρ k).seq = Seq.idle
  idx : (ρ k).idx.toNat = 34
  cfg : (ρ k).cfg = (ρ n).cfg
  wdt : (ρ k).wdtCnt ≤ (ρ n).wdtCnt + ticksBetween σ n k
  buf : (ρ n).cfg.fullPolicy = .drop ∨ ADrain σ ρ → (ρ k).buf = (ρ n).buf

/-- R76: a waiting frame enables the sequencer. -/
theorem FrameWaits.not_seqHolds {k : Nat} (h : FrameWaits σ ρ n k) : (ρ k).seqHolds = false := by
  refine Bool.eq_false_iff.2 fun hhold => ?_
  obtain ⟨-, hroom⟩ | ⟨hsettle, -⟩ := (seqHolds_iff _).1 hhold
  · exact absurd h.idx hroom.ne
  · exact Seq.idle_ne_settle (h.seq.symm.trans hsettle)

/-- R114: a frame waits on over a step of another agent, if no more ticks have passed than the watchdog
allows. -/
theorem FrameWaits.succ (h : AgentRun σ ρ) (hnm : n ≤ m) (hw : FrameWaits σ ρ n m) (hσ : σ m ≠ .seq)
    (hticks : (ρ n).wdtCnt + ticksBetween σ n (m + 1) < (ρ n).cfg.wdtPeriod) :
    FrameWaits σ ρ n (m + 1) := by
  obtain ⟨i, ha, he⟩ := h m
  have hagent := agentInstr_agent ha
  have hi : i.agent ≠ .seq := fun hs => hσ (hagent.symm.trans hs)
  have hwdt := hw.wdt
  rw [ticksBetween_succ σ hnm, ← hagent] at hticks
  have hclk : i.agent = .clk → (ρ m).wdtCnt ≠ (ρ m).cfg.wdtPeriod - 1 := by
    intro hc
    rw [if_pos hc] at hticks
    rw [hw.cfg]
    omega
  obtain ⟨hidx, htwdt, hbuf⟩ := exec_keeps_frame hw.idx hi hclk he
  constructor
  case seq => exact (reactionsLeaveSequencer i _ _ hi he).1.trans hw.seq
  case idx => exact hidx
  case cfg => exact (exec_cfg he).trans hw.cfg
  case wdt =>
    rw [ticksBetween_succ σ hnm, ← hagent]
    omega
  case buf =>
    intro hkeep
    refine (hbuf ?_).trans (hw.buf hkeep)
    obtain hdrop | hdrain := hkeep
    · exact .inl ((congrArg Config.fullPolicy hw.cfg).trans hdrop)
    · refine .inr fun hedge => ?_
      subst hedge
      exact absurd ((frameComplete_iff _).2 hw.idx) (Bool.eq_false_iff.1 (hdrain m hagent.symm))

/-- R119: while the sequencer does not step, its bound limits the ticks, and the frame waits. -/
theorem AgentRun.frame_waits (h : AgentRun σ ρ) (hseq : LSeq bound σ ρ) (hq : (ρ n).seq = Seq.idle)
    (hfull : (ρ n).idx.toNat = 34) (hperiod : (ρ n).wdtCnt + bound < (ρ n).cfg.wdtPeriod) (hnm : n ≤ m)
    (hno : ∀ k, n ≤ k → k < m → σ k ≠ .seq) : ∀ k, n ≤ k → k ≤ m → FrameWaits σ ρ n k := by
  induction m, hnm using Nat.le_induction with
  | base =>
    intro k hnk hkn
    obtain rfl : k = n := Nat.le_antisymm hkn hnk
    exact ⟨hq, hfull, rfl, Nat.le_add_right _ _, fun _ => rfl⟩
  | succ m hnm ih =>
    have hbefore := ih fun k hnk hkm => hno k hnk (Nat.lt_succ_of_lt hkm)
    intro k hnk hkm
    obtain hlt | rfl := Nat.lt_or_eq_of_le hkm
    · exact hbefore k hnk (Nat.le_of_lt_succ hlt)
    · have hticks := hseq n (m + 1) (Nat.le_succ_of_le hnm) fun k hnk hkm =>
        ⟨(hbefore k hnk (Nat.le_of_lt_succ hkm)).not_seqHolds, hno k hnk hkm⟩
      exact (hbefore m hnm (Nat.le_refl m)).succ h hnm (hno m hnm (Nat.lt_succ_self m)) (by omega)

/-- Settles O41: until the sequencer steps, the frame waits. -/
theorem promptSequencerKeepsFrame : Obligations.PromptSequencerKeepsFrame := by
  intro σ ρ bound n h hseq hq hfull hperiod m hnm hno
  have hwaits := h.frame_waits hseq hq hfull hperiod hnm hno m hnm (Nat.le_refl m)
  exact ⟨hwaits.seq, hwaits.idx, fun hdrop => hwaits.buf (.inl hdrop),
    fun hdrain => hwaits.buf (.inr hdrain)⟩

end Sys2Proof.Machine
end

section
/-! Fair runs return to S_IDLE (R13, R90): an enabled sequencer steps at last, and the clock ends the settling
delay. -/

namespace Sys2Proof.Machine

variable {σ : Nat → Agent} {ρ : Nat → State} {n m c : Nat}

/-- R120: a run from a state that meets the invariants stays in such states. -/
theorem AgentRun.inv (h : AgentRun σ ρ) (h0 : Inv (ρ 0)) (n : Nat) : Inv (ρ n) := by
  induction n with
  | zero => exact h0
  | succ n ih =>
    obtain ⟨i, -, he⟩ := h n
    exact ih.kept_by_exec he

/-- The run is in S_IDLE at step `n` or later. -/
def ReachesIdle (ρ : Nat → State) (n : Nat) : Prop :=
  ∃ m, n ≤ m ∧ (ρ m).seq = Seq.idle

theorem ReachesIdle.of_le (hle : n ≤ m) (h : ReachesIdle ρ m) : ReachesIdle ρ n := by
  obtain ⟨k, hk, hq⟩ := h
  exact ⟨k, hle.trans hk, hq⟩

/-- R13: if the sequencer is enabled as long as it has not stepped, it steps. -/
theorem SeqFair.next_step (hfair : SeqFair σ ρ)
    (hfree : ∀ m, n ≤ m → (∀ k, n ≤ k → k < m → σ k ≠ .seq) → (ρ m).seqHolds = false) :
    ∃ m, n ≤ m ∧ σ m = .seq ∧ ∀ k, n ≤ k → k < m → σ k ≠ .seq := by
  have hex : ∃ m, n ≤ m ∧ σ m = .seq := by
    by_contra hnever
    have hno : ∀ k, n ≤ k → σ k ≠ .seq := fun k hk hs => hnever ⟨k, hk, hs⟩
    exact hnever (hfair n fun m hm => hfree m hm fun k hk _ => hno k hk)
  obtain ⟨hle, hstep⟩ := Nat.find_spec hex
  exact ⟨Nat.find hex, hle, hstep, fun k hnk hk hs => Nat.find_min hex hk ⟨hnk, hs⟩⟩

/-- R28: until the sequencer steps, `SEQ` stays. -/
theorem AgentRun.seq_of_no_step (h : AgentRun σ ρ) (hle : n ≤ m)
    (hno : ∀ k, n ≤ k → k < m → σ k ≠ .seq) : (ρ m).seq = (ρ n).seq := by
  induction m, hle using Nat.le_induction with
  | base => rfl
  | succ m hle ih =>
    have hlast := h.seq_of_other_agent (hno m hle (Nat.lt_succ_self m))
    exact hlast.trans (ih fun k hnk hk => hno k hnk (Nat.lt_succ_of_lt hk))

/-- R58: in a state other than S_IDLE and S_SETTLE the sequencer steps at last. -/
theorem AgentRun.steps_from (h : AgentRun σ ρ) (hfair : SeqFair σ ρ) (hidle : (ρ n).seq ≠ Seq.idle)
    (hsettle : (ρ n).seq ≠ Seq.settle) : ∃ m i, n ≤ m ∧ (ρ m).seq = (ρ n).seq ∧
      agentInstr .seq (ρ m) = some i ∧ exec i (ρ m) = .next (ρ (m + 1)) := by
  obtain ⟨m, hle, hstep, hno⟩ := hfair.next_step (n := n) fun m hle hno => by
    refine Bool.eq_false_iff.2 fun hhold => ?_
    have hq := h.seq_of_no_step hle hno
    obtain ⟨hi, -⟩ | ⟨hs, -⟩ := (seqHolds_iff _).1 hhold
    · exact hidle (hq.symm.trans hi)
    · exact hsettle (hq.symm.trans hs)
  obtain ⟨i, ha, he⟩ := h m
  rw [hstep] at ha
  exact ⟨m, i, hle, h.seq_of_no_step hle hno, ha, he⟩

/-- R90: one step of a run while the delay runs. -/
theorem AgentRun.settling_step (h : AgentRun σ ρ) (h0 : Inv (ρ 0)) (hq : (ρ n).seq = Seq.settle)
    (hrun : 0 < (ρ n).settleCnt) : (ρ (n + 1)).seq = Seq.settle ∧
      (ρ (n + 1)).settleCnt + (if σ n = .clk then 1 else 0) = (ρ n).settleCnt := by
  obtain ⟨i, ha, he⟩ := h n
  obtain ⟨hseq, hcnt, -⟩ := exec_while_settling hq ((h.inv h0 n).settling hq).2 hrun he
  rw [agentInstr_agent ha] at hcnt
  exact ⟨hseq, hcnt⟩

/-- R90: until the sequencer steps, a delay that has ended stays ended. -/
theorem AgentRun.elapsed_of_no_step (h : AgentRun σ ρ) (hcnt : (ρ n).settleCnt = 0) (hle : n ≤ m)
    (hno : ∀ k, n ≤ k → k < m → σ k ≠ .seq) : (ρ m).settleCnt = 0 := by
  induction m, hle using Nat.le_induction with
  | base => exact hcnt
  | succ m hle ih =>
    have hm := ih fun k hnk hk => hno k hnk (Nat.lt_succ_of_lt hk)
    obtain ⟨i, ha, he⟩ := h m
    have hi : i.agent ≠ .seq := fun hs =>
      hno m hle (Nat.lt_succ_self m) ((agentInstr_agent ha).symm.trans hs)
    obtain ⟨-, -, -, -, -, hcount⟩ := reactionsLeaveSequencer i _ _ hi he
    rw [hcount, hm]
    exact ite_self 0

/-- R90: at the end of the delay the sequencer leaves S_SETTLE for S_IDLE. -/
theorem AgentRun.idle_of_elapsed (h : AgentRun σ ρ) (hfair : SeqFair σ ρ) (hq : (ρ n).seq = Seq.settle)
    (hcnt : (ρ n).settleCnt = 0) : ReachesIdle ρ n := by
  obtain ⟨m, hle, hstep, hno⟩ := hfair.next_step (n := n) fun m hle hno => by
    have hmq := (h.seq_of_no_step hle hno).trans hq
    refine Bool.eq_false_iff.2 fun hhold => ?_
    exact absurd (h.elapsed_of_no_step hcnt hle hno) ((seqHolds_of_settle hmq).1 hhold).ne'
  have hmq := (h.seq_of_no_step hle hno).trans hq
  obtain ⟨i, ha, he⟩ := h m
  rw [hstep, agentInstr_seq_of_settle hmq] at ha
  obtain rfl := Option.some.inj ha
  refine ⟨m + 1, Nat.le_succ_of_le hle, ?_⟩
  obtain ⟨-, ⟨hrun, -⟩ | ⟨-, -, ht⟩ | ⟨-, -, p, -, ht⟩⟩ := execSettle_next he
  · exact absurd (h.elapsed_of_no_step hcnt hle hno) hrun.ne'
  · exact congrArg State.seq ht
  · exact congrArg State.seq ht

/-- R65, R90: the clock's next step takes one from the delay. -/
theorem AgentRun.counts_down (h : AgentRun σ ρ) (h0 : Inv (ρ 0)) (hq : (ρ n).seq = Seq.settle)
    (hcnt : (ρ n).settleCnt = c + 1) {d : Nat} (hd : σ (n + d) = .clk) :
    ∃ m, n ≤ m ∧ (ρ m).seq = Seq.settle ∧ (ρ m).settleCnt = c := by
  induction d generalizing n with
  | zero =>
    obtain ⟨hnq, hncnt⟩ := h.settling_step h0 hq (by omega)
    rw [if_pos (show σ n = .clk from hd)] at hncnt
    exact ⟨n + 1, Nat.le_succ n, hnq, by omega⟩
  | succ d ih =>
    obtain ⟨hnq, hncnt⟩ := h.settling_step h0 hq (by omega)
    by_cases hclk : σ n = .clk
    · rw [if_pos hclk] at hncnt
      exact ⟨n + 1, Nat.le_succ n, hnq, by omega⟩
    · rw [if_neg hclk] at hncnt
      have hd' : σ (n + 1 + d) = .clk := by rw [Nat.add_right_comm]; exact hd
      obtain ⟨m, hle, hmq, hmcnt⟩ := ih hnq (by omega) hd'
      exact ⟨m, Nat.le_of_succ_le hle, hmq, hmcnt⟩

/-- R90: the clock ends the delay, whatever is left of it. -/
theorem AgentRun.idle_of_settle (h : AgentRun σ ρ) (h0 : Inv (ρ 0)) (hclk : ClkFair σ) (hfair : SeqFair σ ρ)
    (hq : (ρ n).seq = Seq.settle) : ReachesIdle ρ n := by
  induction hcnt : (ρ n).settleCnt generalizing n with
  | zero => exact h.idle_of_elapsed hfair hq hcnt
  | succ c ih =>
    obtain ⟨k, hnk, hk⟩ := hclk n
    obtain ⟨d, rfl⟩ := Nat.exists_eq_add_of_le hnk
    obtain ⟨m, hle, hmq, hmcnt⟩ := h.counts_down h0 hq hcnt hk
    exact (ih hmq hmcnt).of_le hle

/-- R80: the action ends in S_IDLE or, for a motion action, in S_SETTLE. -/
theorem AgentRun.idle_of_act (h : AgentRun σ ρ) (h0 : Inv (ρ 0)) (hclk : ClkFair σ) (hfair : SeqFair σ ρ)
    (hq : (ρ n).seq = Seq.act) : ReachesIdle ρ n := by
  obtain ⟨m, i, hle, hmq, ha, he⟩ := h.steps_from hfair (by rw [hq]; decide) (by rw [hq]; decide)
  rw [hq] at hmq
  rw [agentInstr_seq_of_act hmq] at ha
  obtain rfl := Option.some.inj ha
  obtain ⟨t, ht, -, -, -, htq⟩ := act_answers hmq
  obtain rfl := Host.Outcome.next.inj (ht.symm.trans he)
  refine ReachesIdle.of_le (Nat.le_succ_of_le hle) ?_
  split at htq
  · exact h.idle_of_settle h0 hclk hfair htq
  · exact ⟨m + 1, Nat.le_refl _, htq⟩

/-- R78: DISPATCH goes on to the action. -/
theorem AgentRun.idle_of_dispatch (h : AgentRun σ ρ) (h0 : Inv (ρ 0)) (hclk : ClkFair σ)
    (hfair : SeqFair σ ρ) (hq : (ρ n).seq = Seq.dispatch) : ReachesIdle ρ n := by
  obtain ⟨m, i, hle, hmq, ha, he⟩ := h.steps_from hfair (by rw [hq]; decide) (by rw [hq]; decide)
  rw [hq] at hmq
  rw [agentInstr_seq_of_dispatch hmq] at ha
  obtain rfl := Option.some.inj ha
  obtain ⟨-, ht⟩ := execDispatch_next he
  exact (h.idle_of_act h0 hclk hfair (congrArg State.seq ht)).of_le (Nat.le_succ_of_le hle)

/-- R111: BOOT ends in S_IDLE. -/
theorem AgentRun.idle_of_boot (h : AgentRun σ ρ) (hfair : SeqFair σ ρ) (hq : (ρ n).seq = Seq.boot) :
    ReachesIdle ρ n := by
  obtain ⟨m, i, hle, hmq, ha, he⟩ := h.steps_from hfair (by rw [hq]; decide) (by rw [hq]; decide)
  rw [hq] at hmq
  rw [agentInstr_seq_of_boot hmq] at ha
  obtain rfl := Option.some.inj ha
  obtain ⟨-, ht⟩ := execBoot_next he
  exact ⟨m + 1, Nat.le_succ_of_le hle, congrArg State.seq ht⟩

/-- Settles O58: from each of the sequencer's five states the run comes to S_IDLE. -/
theorem fairRunsReturnToIdle : Obligations.FairRunsReturnToIdle := by
  intro σ ρ h0 h hclk hfair n
  obtain hq | hq | hq | hq | hq := (Seq.legal_iff (ρ n).seq).1 (h.inv h0 n).seqLegal
  · exact ⟨n, Nat.le_refl n, hq⟩
  · exact h.idle_of_dispatch h0 hclk hfair hq
  · exact h.idle_of_act h0 hclk hfair hq
  · exact h.idle_of_settle h0 hclk hfair hq
  · exact h.idle_of_boot hfair hq

end Sys2Proof.Machine
end
